-- ==== Sys2Proof/Word.lean ====
section
/-! DEFINITION. The instruction word (R35), the 16-bit shifter field (R6) and the register identifier (R17). -/

namespace Sys2Proof

/-- The raw instruction word: "fixed-width 32-bit machine instruction words" (R35). -/
abbrev Word := BitVec 32

/-- The shifter-operand field handed to the ShifterOperand decoder: 16 bits (R6, conflict C2). -/
abbrev Field := BitVec 16

/-- R17: a register identifier, a number 0 to 15 and nothing else.
The four-bit type makes an index above 15 unrepresentable (R173). -/
structure Register where
  index : BitVec 4
  deriving DecidableEq, Repr

end Sys2Proof
end

