-- ==== Sys2Proof/Machine/BitField.lean ====
section
/-! DEFINITION. The BitField utilities (R50 to R53), on which every decoder is built.
A use outside the precondition has no value: each primitive takes the proof of its bound, so that a violation is
unrepresentable, and the checked forms (names ending in `?`) refuse it with `none` (R53, R173). -/

namespace Sys2Proof

/-- R50: `floor(w / 2^offset) mod 2^length`, the slice `w[offset+length-1 : offset]`, for any word width. -/
def getBits {W : Nat} (w : BitVec W) (offset length : Nat) (_fits : offset + length ≤ W := by omega) :
    BitVec length :=
  BitVec.ofNat length (w.toNat / 2 ^ offset)

/-- R51: `get_bits(w, offset, 1) == 1`. -/
def isFlagSet {W : Nat} (w : BitVec W) (offset : Nat) (fits : offset + 1 ≤ W := by omega) : Bool :=
  getBits w offset 1 fits == 1#1

/-- R17: `Register.from_index(i)`, defined for `0 <= i <= 15` only. -/
def Register.fromIndex (i : Nat) (_inRange : i ≤ 15) : Register :=
  ⟨BitVec.ofNat 4 i⟩

/-- R52: `Register.from_index(get_bits(w, offset, 4))`. -/
def getRegister {W : Nat} (w : BitVec W) (offset : Nat) (fits : offset + 4 ≤ W := by omega) : Register :=
  Register.fromIndex (getBits w offset 4 fits).toNat (Nat.le_of_lt_succ (getBits w offset 4 fits).isLt)

/-- R50 with the precondition checked: a contract violation has no result (R53). -/
def getBits? {W : Nat} (w : BitVec W) (offset length : Nat) : Option (BitVec length) :=
  if fits : offset + length ≤ W then some (getBits w offset length fits) else none

/-- R51 with the precondition checked (R53). -/
def isFlagSet? {W : Nat} (w : BitVec W) (offset : Nat) : Option Bool :=
  if fits : offset + 1 ≤ W then some (isFlagSet w offset fits) else none

/-- R52 with the precondition checked (R53). -/
def getRegister? {W : Nat} (w : BitVec W) (offset : Nat) : Option Register :=
  if fits : offset + 4 ≤ W then some (getRegister w offset fits) else none

/-- R17 with the precondition checked: an index above 15 has no result (R173). -/
def Register.fromIndex? (i : Nat) : Option Register :=
  if inRange : i ≤ 15 then some (Register.fromIndex i inRange) else none

end Sys2Proof
end

