-- ==== Sys2Proof/Config.lean ====
section
/-! DEFINITION. The two OPEN parameters of the block (R7): `COND_LSB` and `DATA_MNEMONICS`. -/

namespace Sys2Proof

/-- R7: the parameters the source leaves open, "which the model takes as arguments".
`condLsb` is `COND_LSB`, bounded so that the 4-bit field lies inside the 32-bit word.
`dataMnemonics` is `DATA_MNEMONICS`: sixteen strings, indexed by the data-opcode code. -/
structure Config where
  condLsb : Fin 29
  dataMnemonics : Vector String 16
  deriving DecidableEq, Repr

/-- R101: "three lower-case ASCII letters". -/
def isThreeLetterMnemonic (m : String) : Bool :=
  m.toList.length == 3 && m.toList.all Char.isLower

/-- R101: a legal `DATA_MNEMONICS` is "sixteen 3-letter strings, pairwise distinct". -/
def Config.wf (cfg : Config) : Bool :=
  cfg.dataMnemonics.toList.all isThreeLetterMnemonic && decide cfg.dataMnemonics.toList.Nodup

end Sys2Proof
end

