-- ==== Sys2Proof/Machine/Defaults.lean ====
section
/-! DEFINITION. The values R7 gives the OPEN parameters by default. -/

namespace Sys2Proof

/-- The defaults R7 names for the OPEN parameters.
PRESUMED (the spec marks both "from general knowledge, not in source"); unsafe; log entries 1 and 2. -/
def Config.standard : Config where
  condLsb := 28
  dataMnemonics := #v["and", "eor", "sub", "rsb", "add", "adc", "sbc", "rsc",
    "tst", "teq", "cmp", "cmn", "orr", "mov", "bic", "mvn"]

end Sys2Proof
end

