-- ==== Sys2Proof/Machine/Values.lean ====
section
/-! DEFINITION. The value types on the block's ports (R17 to R24) and what a caller presents to the block (R15, R197). -/

namespace Sys2Proof

/-- R18: the closed enumeration of sixteen conditions, in encoding order. -/
inductive ConditionCode where
  | equal
  | notEqual
  | carrySet
  | carryClear
  | minus
  | plus
  | overflowSet
  | overflowClear
  | unsignedHigher
  | unsignedLowerOrSame
  | signedGreaterThanOrEqual
  | signedLessThan
  | signedGreaterThan
  | signedLessThanOrEqual
  | always
  | never
  deriving DecidableEq, Repr

/-- R19, R82. -/
inductive ShiftOperation where
  | logicalLeft
  | logicalRight
  | arithmeticRight
  | rotateRight
  deriving DecidableEq, Repr

/-- R19: the shift amount, held in a register or a literal.
The literal's container is 5 bits wide with bit 4 always 0 in what the block produces (conflict C1). -/
inductive ShiftOperand where
  | register (r : Register)
  | value (v : BitVec 5)
  deriving DecidableEq, Repr

/-- R19: the second operand, a rotated immediate (not rotated here) or a shifted register. -/
inductive ShifterOperand where
  | immediate (value : BitVec 8) (rotate : BitVec 4)
  | shift (operation : ShiftOperation) (source : Register) (operand : ShiftOperand)
  deriving DecidableEq, Repr

/-- R20: the closed enumeration of sixteen ALU operations, in code order. -/
inductive DataOpcode where
  | and
  | exclusiveOr
  | subtract
  | reverseSubtract
  | add
  | addWithCarry
  | subtractWithCarry
  | reverseSubtractWithCarry
  | test
  | testEquivalence
  | compare
  | compareNegated
  | or
  | move
  | bitClear
  | moveNot
  deriving DecidableEq, Repr

/-- R20: a decoded data-processing instruction; it holds no condition code (conflict C8). -/
structure DataInstruction where
  operand1 : Register
  operand2 : ShifterOperand
  destination : Register
  opcode : DataOpcode
  setConditionCodes : Bool
  deriving DecidableEq, Repr

/-- R21. -/
structure Multiply where
  long : Bool
  signed : Bool
  accumulate : Bool
  setConditionCodes : Bool
  operand1 : Register
  operand2 : Register
  operand3 : Register
  destination : Register
  deriving DecidableEq, Repr

/-- R22. -/
inductive SwapSize where
  | byte
  | word
  deriving DecidableEq, Repr

/-- R22: the descriptor of a register/memory exchange; "no execution". -/
structure Swap where
  source : Register
  destination : Register
  base : Register
  size : SwapSize
  deriving DecidableEq, Repr

/-- R23: `offset` is the two's-complement 32-bit value (R167). -/
inductive Branch where
  | branchAndExchange (register : Register)
  | branch (offset : BitVec 32) (link : Bool)
  deriving DecidableEq, Repr

/-- R24, R170: the one recoverable error, with the "original 16-bit field". -/
inductive DecodeError where
  | invalidShifterOperand (field : Field)
  deriving DecidableEq, Repr

/-- R24: `Ok(v)` or `Err(e)`, "never both, never neither". -/
inductive DecodeResult (α : Type) where
  | ok (v : α)
  | err (e : DecodeError)
  deriving DecidableEq, Repr

/-- The decoders a caller may choose for a 32-bit word on `iw` (R16, R36).
`condition` is the ConditionCode decoder behind the top-level tie of `cond_in` (R15). -/
inductive WordDecoder where
  | condition
  | dataInstruction
  | multiply
  | swap
  | branchExchange
  | branch
  deriving DecidableEq, Repr

/-- R197: one pair (input, chosen decoder) of a run.
`condIn` and `shifter` drive the ConditionCode decoder and the ShifterOperand sub-block on their own (R15). -/
inductive Presentation where
  | condIn (code : BitVec 4)
  | shifter (isImmediate : Bool) (field : Field)
  | word (decoder : WordDecoder) (iw : Word)
  deriving DecidableEq, Repr

end Sys2Proof
end

