-- ==== Sys2Proof/Syntax.lean ====
section
/-! DEFINITION. The syntax: one constructor of `Instr` for each of the 55 rows of spec/opcode_table.json (R49).
A constructor carries exactly the fields its row names ("source_fields"); bits the row ignores are not kept (R44). -/

namespace Sys2Proof

/-- The fields of a format DP row (R37).
`shifterField` is the whole 16-bit field, whose bits 15:12 overlap `destination`; `WellFormed` says they agree. -/
structure DataFields where
  isImmediate : Bool
  setConditionCodes : Bool
  operand1 : Register
  destination : Register
  shifterField : Field
  deriving DecidableEq, Repr

/-- The fields of a format MUL row (R39), less the three flags that select the row. -/
structure MulFields where
  setConditionCodes : Bool
  destination : Register
  operand1 : Register
  operand2 : Register
  operand3 : Register
  deriving DecidableEq, Repr

/-- The fields of a format SWP row (R40), less the size flag that selects the row. -/
structure SwapFields where
  base : Register
  destination : Register
  source : Register
  deriving DecidableEq, Repr

/-- The decodable forms of the block, in the order of spec/opcode_table.json. -/
inductive Instr where
  -- format COND4 (R62 to R77)
  | condEq
  | condNe
  | condCs
  | condCc
  | condMi
  | condPl
  | condVs
  | condVc
  | condHi
  | condLs
  | condGe
  | condLt
  | condGt
  | condLe
  | condAl
  | condNv
  -- format DP (R102 to R117)
  | dpAnd (d : DataFields)
  | dpEor (d : DataFields)
  | dpSub (d : DataFields)
  | dpRsb (d : DataFields)
  | dpAdd (d : DataFields)
  | dpAdc (d : DataFields)
  | dpSbc (d : DataFields)
  | dpRsc (d : DataFields)
  | dpTst (d : DataFields)
  | dpTeq (d : DataFields)
  | dpCmp (d : DataFields)
  | dpCmn (d : DataFields)
  | dpOrr (d : DataFields)
  | dpMov (d : DataFields)
  | dpBic (d : DataFields)
  | dpMvn (d : DataFields)
  -- format SHIFTER16 (R80, R88 to R95, R85)
  | shImm (value : BitVec 8) (rotate : BitVec 4)
  | shLslLiteral (amount : BitVec 4) (source : Register)
  | shLsrLiteral (amount : BitVec 4) (source : Register)
  | shAsrLiteral (amount : BitVec 4) (source : Register)
  | shRorLiteral (amount : BitVec 4) (source : Register)
  | shLslRegister (amountRegister : Register) (source : Register)
  | shLsrRegister (amountRegister : Register) (source : Register)
  | shAsrRegister (amountRegister : Register) (source : Register)
  | shRorRegister (amountRegister : Register) (source : Register)
  | shInvalid (payload : Field)
  -- format MUL (R131 to R138)
  | mulMul (m : MulFields)
  | mulMla (m : MulFields)
  | mulMulSigned (m : MulFields)
  | mulMlaSigned (m : MulFields)
  | mulUmull (m : MulFields)
  | mulUmlal (m : MulFields)
  | mulSmull (m : MulFields)
  | mulSmlal (m : MulFields)
  -- format SWP (R151, R152)
  | swpWord (w : SwapFields)
  | swpByte (w : SwapFields)
  -- formats BX (R160) and B (R165, R166)
  | bx (register : Register)
  | b (offset : BitVec 24)
  | bl (offset : BitVec 24)
  deriving DecidableEq, Repr

end Sys2Proof
end

