-- ==== Sys2Proof/WellFormed.lean ====
section
/-! DEFINITION. Which terms of `Instr` some input of the block spells.
Two checks only: the type of every other field admits exactly the values its bits can hold. -/

namespace Sys2Proof

/-- R37: bits 15:12 of the shifter field are the destination field of the same word. -/
def DataFields.wellFormed (d : DataFields) : Bool :=
  d.shifterField.extractLsb' 12 4 == d.destination.index

/-- R85: the invalid form is the shifter fields with bit 4 and bit 7 both set. -/
def invalidPayload (f : Field) : Bool :=
  f &&& 0x0090#16 == 0x0090#16

/-- The instruction is one the encoding can spell. -/
def Instr.wellFormed : Instr → Bool
  | .condEq | .condNe | .condCs | .condCc | .condMi | .condPl | .condVs | .condVc
  | .condHi | .condLs | .condGe | .condLt | .condGt | .condLe | .condAl | .condNv => true
  | .dpAnd d | .dpEor d | .dpSub d | .dpRsb d | .dpAdd d | .dpAdc d | .dpSbc d | .dpRsc d
  | .dpTst d | .dpTeq d | .dpCmp d | .dpCmn d | .dpOrr d | .dpMov d | .dpBic d | .dpMvn d => d.wellFormed
  | .shImm _ _ => true
  | .shLslLiteral _ _ | .shLsrLiteral _ _ | .shAsrLiteral _ _ | .shRorLiteral _ _ => true
  | .shLslRegister _ _ | .shLsrRegister _ _ | .shAsrRegister _ _ | .shRorRegister _ _ => true
  | .shInvalid payload => invalidPayload payload
  | .mulMul _ | .mulMla _ | .mulMulSigned _ | .mulMlaSigned _
  | .mulUmull _ | .mulUmlal _ | .mulSmull _ | .mulSmlal _ => true
  | .swpWord _ | .swpByte _ => true
  | .bx _ | .b _ | .bl _ => true

end Sys2Proof
end

