-- ==== Sys2Proof/Decode.lean ====
section
/-! DEFINITION. From what a caller presents to the row of spec/opcode_table.json it spells, and back.
`decode` is total: no decoder of the block refuses an input (R44, R47).
What is refused, by name, is a raw value that does not fit its port (R173). -/

namespace Sys2Proof

/-- R60, R49: the row of a 4-bit condition code. -/
def condRows : Vector Instr 16 :=
  #v[.condEq, .condNe, .condCs, .condCc, .condMi, .condPl, .condVs, .condVc,
    .condHi, .condLs, .condGe, .condLt, .condGt, .condLe, .condAl, .condNv]

/-- R100, R49: the row of a 4-bit data-opcode code (bits 24:21). -/
def dataRows : Vector (DataFields → Instr) 16 :=
  #v[.dpAnd, .dpEor, .dpSub, .dpRsb, .dpAdd, .dpAdc, .dpSbc, .dpRsc,
    .dpTst, .dpTeq, .dpCmp, .dpCmn, .dpOrr, .dpMov, .dpBic, .dpMvn]

/-- R88 to R91, R49: the literal-shift row of a 2-bit operation code. -/
def literalShiftRows : Vector (BitVec 4 → Register → Instr) 4 :=
  #v[.shLslLiteral, .shLsrLiteral, .shAsrLiteral, .shRorLiteral]

/-- R92 to R95, R49: the register-shift row of a 2-bit operation code. -/
def registerShiftRows : Vector (Register → Register → Instr) 4 :=
  #v[.shLslRegister, .shLsrRegister, .shAsrRegister, .shRorRegister]

/-- R131 to R138, R49: the row of the three flags (bits 23:21). -/
def multiplyRows : Vector (MulFields → Instr) 8 :=
  #v[.mulMul, .mulMla, .mulMulSigned, .mulMlaSigned, .mulUmull, .mulUmlal, .mulSmull, .mulSmlal]

/-- The row a code selects in the table of its format (R49). -/
def rowOfDataCode (code : BitVec 4) : DataFields → Instr :=
  dataRows[code.toNat]'code.isLt

def rowOfLiteralShift (code : BitVec 2) : BitVec 4 → Register → Instr :=
  literalShiftRows[code.toNat]'code.isLt

def rowOfRegisterShift (code : BitVec 2) : Register → Register → Instr :=
  registerShiftRows[code.toNat]'code.isLt

def rowOfMultiplyFlags (flags : BitVec 3) : MulFields → Instr :=
  multiplyRows[flags.toNat]'flags.isLt

def decodeCondition (code : BitVec 4) : Instr :=
  condRows[code.toNat]'code.isLt

/-- R37: the fields of a data-processing word. -/
def dataFieldsOf (iw : Word) : DataFields where
  isImmediate := isFlagSet iw 25
  setConditionCodes := isFlagSet iw 20
  operand1 := getRegister iw 16
  destination := getRegister iw 12
  shifterField := getBits iw 0 16

def decodeData (iw : Word) : Instr :=
  rowOfDataCode (getBits iw 21 4) (dataFieldsOf iw)

/-- R49, R87, R96: the row of a shifter field.
The invalid row takes priority over the register-shift rows. -/
def decodeShifter (isImmediate : Bool) (f : Field) : Instr :=
  if isImmediate then
    .shImm (getBits f 0 8) (getBits f 8 4)
  else if isFlagSet f 4 then
    if isFlagSet f 7 then
      .shInvalid f
    else
      rowOfRegisterShift (getBits f 5 2) (getRegister f 8) (getRegister f 0)
  else
    rowOfLiteralShift (getBits f 5 2) (getBits f 7 4) (getRegister f 0)

/-- R39: the fields of a multiply word. -/
def mulFieldsOf (iw : Word) : MulFields where
  setConditionCodes := isFlagSet iw 20
  destination := getRegister iw 16
  operand1 := getRegister iw 12
  operand2 := getRegister iw 8
  operand3 := getRegister iw 0

def decodeMultiply (iw : Word) : Instr :=
  rowOfMultiplyFlags (getBits iw 21 3) (mulFieldsOf iw)

/-- R40: the fields of a swap word. -/
def swapFieldsOf (iw : Word) : SwapFields where
  base := getRegister iw 16
  destination := getRegister iw 12
  source := getRegister iw 0

def decodeSwap (iw : Word) : Instr :=
  if isFlagSet iw 22 then .swpByte (swapFieldsOf iw) else .swpWord (swapFieldsOf iw)

def decodeBranchExchange (iw : Word) : Instr :=
  .bx (getRegister iw 0)

def decodeBranch (iw : Word) : Instr :=
  if isFlagSet iw 24 then .bl (getBits iw 0 24) else .b (getBits iw 0 24)

/-- R15: the top-level tie, `cond_in = iw[COND_LSB+3 : COND_LSB]`. -/
def tiedCondition (cfg : Config) (iw : Word) : BitVec 4 :=
  getBits iw cfg.condLsb.val 4

/-- R36: the field map of the decoder the caller chose, applied to any input value whatever (R44). -/
def decode (cfg : Config) : Presentation → Instr
  | .condIn code => decodeCondition code
  | .shifter isImmediate f => decodeShifter isImmediate f
  | .word .condition iw => decodeCondition (tiedCondition cfg iw)
  | .word .dataInstruction iw => decodeData iw
  | .word .multiply iw => decodeMultiply iw
  | .word .swap iw => decodeSwap iw
  | .word .branchExchange iw => decodeBranchExchange iw
  | .word .branch iw => decodeBranch iw

/-! ### Raw values -/

/-- The inputs of the block by name, to which a caller outside it may hand a raw number. -/
inductive Port where
  | condIn
  | shifter
  | iw (decoder : WordDecoder)
  deriving DecidableEq, Repr

/-- The width of a port's pattern in bits (R15; for the shifter `{is_imm, field[15:0]}`, R49). -/
def Port.width : Port → Nat
  | .condIn => 4
  | .shifter => 17
  | .iw _ => 32

/-- Why a raw value is not presented to a decoder. -/
inductive Rejection where
  /-- R173: a value wider than the port, a contract violation; never a DecodeError and never a value. Safe. -/
  | widerThanPort (port : Port) (value : Nat)
  deriving DecidableEq, Repr

/-- The presentation of a raw number on a port, refused by name when it does not fit (R60, R173). -/
def present (port : Port) (value : Nat) : Except Rejection Presentation :=
  if value < 2 ^ port.width then
    match port with
    | .condIn => .ok (.condIn (BitVec.ofNat 4 value))
    | .shifter => .ok (.shifter (value.testBit 16) (BitVec.ofNat 16 value))
    | .iw decoder => .ok (.word decoder (BitVec.ofNat 32 value))
  else
    .error (.widerThanPort port value)

/-- The decoder on any raw number. -/
def decodeRaw (cfg : Config) (port : Port) (value : Nat) : Except Rejection Instr :=
  (present port value).map (decode cfg)

/-- Which port reads a bare table word: the table has seven formats and no dispatcher (R36, R49), so a number and its
length do not say which. DESIGN CHOICE, log entry 5: up to 8 bits is COND4; up to 24 bits is SHIFTER16, or MUL where a
bit above the 17 of its pattern is set; 32 bits is DP. No statement about the block rests on this. -/
def tablePort (nbits w : Nat) : Port :=
  if nbits ≤ 8 then .condIn
  else if nbits ≤ 24 then (if w < 2 ^ 17 then .shifter else .iw .multiply)
  else .iw .dataInstruction

/-- What a bare table word presents; none where the value does not fit. -/
def tablePresentation (nbits w : Nat) : Option Presentation :=
  if nbits ≤ 32 then (present (tablePort nbits w) w).toOption else none

/-- The host's question: the instruction read from a table row's bits, numbered as spec/opcode_table.json numbers them. -/
def decodeTableWord (nbits w : Nat) : Option Instr :=
  (tablePresentation nbits w).map (decode Config.standard)

/-! ### The encoder -/

/-- A field at its place in a `W`-bit input, every other bit 0. -/
def place {n : Nat} (W : Nat) (field : BitVec n) (offset : Nat) : BitVec W :=
  field.setWidth W <<< offset

/-- Format DP (R37): ignored bits 31:26 are written 0, and bits 15:12 are the destination. -/
def encodeData (code : BitVec 4) (d : DataFields) : Presentation :=
  .word .dataInstruction
    (place 32 (BitVec.ofBool d.isImmediate) 25 ||| place 32 code 21 ||| place 32 (BitVec.ofBool d.setConditionCodes) 20
      ||| place 32 d.operand1.index 16 ||| place 32 d.destination.index 12
      ||| place 32 (d.shifterField.extractLsb' 0 12) 0)

/-- Format DP-I (R37): ignored bits 15:12 are written 0. -/
def encodeImmediate (value : BitVec 8) (rotate : BitVec 4) : Presentation :=
  .shifter true (place 16 rotate 8 ||| place 16 value 0)

/-- Format DP-S (R38): ignored bits 15:11 are written 0, and bit 4 is 0. -/
def encodeLiteralShift (code : BitVec 2) (amount : BitVec 4) (source : Register) : Presentation :=
  .shifter false (place 16 amount 7 ||| place 16 code 5 ||| place 16 source.index 0)

/-- Format DP-R (R38): ignored bits 15:12 are written 0, bit 7 is 0 and bit 4 is 1. -/
def encodeRegisterShift (code : BitVec 2) (amountRegister source : Register) : Presentation :=
  .shifter false
    (place 16 amountRegister.index 8 ||| place 16 code 5 ||| place 16 1#1 4 ||| place 16 source.index 0)

/-- Format MUL (R39): ignored bits 31:24 and 7:4 are written 0. -/
def encodeMultiply (flags : BitVec 3) (m : MulFields) : Presentation :=
  .word .multiply
    (place 32 flags 21 ||| place 32 (BitVec.ofBool m.setConditionCodes) 20 ||| place 32 m.destination.index 16
      ||| place 32 m.operand1.index 12 ||| place 32 m.operand2.index 8 ||| place 32 m.operand3.index 0)

/-- Format SWP (R40): ignored bits 31:23, 21:20 and 11:4 are written 0. -/
def encodeSwap (size : BitVec 1) (w : SwapFields) : Presentation :=
  .word .swap
    (place 32 size 22 ||| place 32 w.base.index 16 ||| place 32 w.destination.index 12 ||| place 32 w.source.index 0)

/-- Format BX (R41): ignored bits 31:4 are written 0. -/
def encodeBranchExchange (register : Register) : Presentation :=
  .word .branchExchange (place 32 register.index 0)

/-- Format B (R42): ignored bits 31:25 are written 0. -/
def encodeBranch (link : BitVec 1) (offset : BitVec 24) : Presentation :=
  .word .branch (place 32 link 24 ||| place 32 offset 0)

/-- The input that spells an instruction, with every ignored bit 0, from the field maps R37 to R43. -/
def encode : Instr → Presentation
  | .condEq => .condIn 0b0000#4
  | .condNe => .condIn 0b0001#4
  | .condCs => .condIn 0b0010#4
  | .condCc => .condIn 0b0011#4
  | .condMi => .condIn 0b0100#4
  | .condPl => .condIn 0b0101#4
  | .condVs => .condIn 0b0110#4
  | .condVc => .condIn 0b0111#4
  | .condHi => .condIn 0b1000#4
  | .condLs => .condIn 0b1001#4
  | .condGe => .condIn 0b1010#4
  | .condLt => .condIn 0b1011#4
  | .condGt => .condIn 0b1100#4
  | .condLe => .condIn 0b1101#4
  | .condAl => .condIn 0b1110#4
  | .condNv => .condIn 0b1111#4
  | .dpAnd d => encodeData 0b0000#4 d
  | .dpEor d => encodeData 0b0001#4 d
  | .dpSub d => encodeData 0b0010#4 d
  | .dpRsb d => encodeData 0b0011#4 d
  | .dpAdd d => encodeData 0b0100#4 d
  | .dpAdc d => encodeData 0b0101#4 d
  | .dpSbc d => encodeData 0b0110#4 d
  | .dpRsc d => encodeData 0b0111#4 d
  | .dpTst d => encodeData 0b1000#4 d
  | .dpTeq d => encodeData 0b1001#4 d
  | .dpCmp d => encodeData 0b1010#4 d
  | .dpCmn d => encodeData 0b1011#4 d
  | .dpOrr d => encodeData 0b1100#4 d
  | .dpMov d => encodeData 0b1101#4 d
  | .dpBic d => encodeData 0b1110#4 d
  | .dpMvn d => encodeData 0b1111#4 d
  | .shImm value rotate => encodeImmediate value rotate
  | .shLslLiteral amount source => encodeLiteralShift 0b00#2 amount source
  | .shLsrLiteral amount source => encodeLiteralShift 0b01#2 amount source
  | .shAsrLiteral amount source => encodeLiteralShift 0b10#2 amount source
  | .shRorLiteral amount source => encodeLiteralShift 0b11#2 amount source
  | .shLslRegister amountRegister source => encodeRegisterShift 0b00#2 amountRegister source
  | .shLsrRegister amountRegister source => encodeRegisterShift 0b01#2 amountRegister source
  | .shAsrRegister amountRegister source => encodeRegisterShift 0b10#2 amountRegister source
  | .shRorRegister amountRegister source => encodeRegisterShift 0b11#2 amountRegister source
  | .shInvalid payload => .shifter false payload
  | .mulMul m => encodeMultiply 0b000#3 m
  | .mulMla m => encodeMultiply 0b001#3 m
  | .mulMulSigned m => encodeMultiply 0b010#3 m
  | .mulMlaSigned m => encodeMultiply 0b011#3 m
  | .mulUmull m => encodeMultiply 0b100#3 m
  | .mulUmlal m => encodeMultiply 0b101#3 m
  | .mulSmull m => encodeMultiply 0b110#3 m
  | .mulSmlal m => encodeMultiply 0b111#3 m
  | .swpWord w => encodeSwap 0#1 w
  | .swpByte w => encodeSwap 1#1 w
  | .bx register => encodeBranchExchange register
  | .b offset => encodeBranch 0#1 offset
  | .bl offset => encodeBranch 1#1 offset

/-! ### The opcode table's rows as masks -/

/-- A row of spec/opcode_table.json: the port whose input it describes, its mask and its match (R49). -/
structure Row where
  port : Port
  mask : Nat
  pattern : Nat
  deriving DecidableEq, Repr

/-- R49: the row of each instruction, with the mask and match that spec/opcode_table.json prints. -/
def Instr.row : Instr → Row
  | .condEq => ⟨.condIn, 0xF, 0x0⟩
  | .condNe => ⟨.condIn, 0xF, 0x1⟩
  | .condCs => ⟨.condIn, 0xF, 0x2⟩
  | .condCc => ⟨.condIn, 0xF, 0x3⟩
  | .condMi => ⟨.condIn, 0xF, 0x4⟩
  | .condPl => ⟨.condIn, 0xF, 0x5⟩
  | .condVs => ⟨.condIn, 0xF, 0x6⟩
  | .condVc => ⟨.condIn, 0xF, 0x7⟩
  | .condHi => ⟨.condIn, 0xF, 0x8⟩
  | .condLs => ⟨.condIn, 0xF, 0x9⟩
  | .condGe => ⟨.condIn, 0xF, 0xA⟩
  | .condLt => ⟨.condIn, 0xF, 0xB⟩
  | .condGt => ⟨.condIn, 0xF, 0xC⟩
  | .condLe => ⟨.condIn, 0xF, 0xD⟩
  | .condAl => ⟨.condIn, 0xF, 0xE⟩
  | .condNv => ⟨.condIn, 0xF, 0xF⟩
  | .dpAnd _ => ⟨.iw .dataInstruction, 0x01E00000, 0x00000000⟩
  | .dpEor _ => ⟨.iw .dataInstruction, 0x01E00000, 0x00200000⟩
  | .dpSub _ => ⟨.iw .dataInstruction, 0x01E00000, 0x00400000⟩
  | .dpRsb _ => ⟨.iw .dataInstruction, 0x01E00000, 0x00600000⟩
  | .dpAdd _ => ⟨.iw .dataInstruction, 0x01E00000, 0x00800000⟩
  | .dpAdc _ => ⟨.iw .dataInstruction, 0x01E00000, 0x00A00000⟩
  | .dpSbc _ => ⟨.iw .dataInstruction, 0x01E00000, 0x00C00000⟩
  | .dpRsc _ => ⟨.iw .dataInstruction, 0x01E00000, 0x00E00000⟩
  | .dpTst _ => ⟨.iw .dataInstruction, 0x01E00000, 0x01000000⟩
  | .dpTeq _ => ⟨.iw .dataInstruction, 0x01E00000, 0x01200000⟩
  | .dpCmp _ => ⟨.iw .dataInstruction, 0x01E00000, 0x01400000⟩
  | .dpCmn _ => ⟨.iw .dataInstruction, 0x01E00000, 0x01600000⟩
  | .dpOrr _ => ⟨.iw .dataInstruction, 0x01E00000, 0x01800000⟩
  | .dpMov _ => ⟨.iw .dataInstruction, 0x01E00000, 0x01A00000⟩
  | .dpBic _ => ⟨.iw .dataInstruction, 0x01E00000, 0x01C00000⟩
  | .dpMvn _ => ⟨.iw .dataInstruction, 0x01E00000, 0x01E00000⟩
  | .shImm _ _ => ⟨.shifter, 0x10000, 0x10000⟩
  | .shLslLiteral _ _ => ⟨.shifter, 0x10070, 0x00000⟩
  | .shLsrLiteral _ _ => ⟨.shifter, 0x10070, 0x00020⟩
  | .shAsrLiteral _ _ => ⟨.shifter, 0x10070, 0x00040⟩
  | .shRorLiteral _ _ => ⟨.shifter, 0x10070, 0x00060⟩
  | .shLslRegister _ _ => ⟨.shifter, 0x100F0, 0x00010⟩
  | .shLsrRegister _ _ => ⟨.shifter, 0x100F0, 0x00030⟩
  | .shAsrRegister _ _ => ⟨.shifter, 0x100F0, 0x00050⟩
  | .shRorRegister _ _ => ⟨.shifter, 0x100F0, 0x00070⟩
  | .shInvalid _ => ⟨.shifter, 0x10090, 0x00090⟩
  | .mulMul _ => ⟨.iw .multiply, 0x00E00000, 0x00000000⟩
  | .mulMla _ => ⟨.iw .multiply, 0x00E00000, 0x00200000⟩
  | .mulMulSigned _ => ⟨.iw .multiply, 0x00E00000, 0x00400000⟩
  | .mulMlaSigned _ => ⟨.iw .multiply, 0x00E00000, 0x00600000⟩
  | .mulUmull _ => ⟨.iw .multiply, 0x00E00000, 0x00800000⟩
  | .mulUmlal _ => ⟨.iw .multiply, 0x00E00000, 0x00A00000⟩
  | .mulSmull _ => ⟨.iw .multiply, 0x00E00000, 0x00C00000⟩
  | .mulSmlal _ => ⟨.iw .multiply, 0x00E00000, 0x00E00000⟩
  | .swpWord _ => ⟨.iw .swap, 0x00400000, 0x00000000⟩
  | .swpByte _ => ⟨.iw .swap, 0x00400000, 0x00400000⟩
  | .bx _ => ⟨.iw .branchExchange, 0x00000000, 0x00000000⟩
  | .b _ => ⟨.iw .branch, 0x01000000, 0x00000000⟩
  | .bl _ => ⟨.iw .branch, 0x01000000, 0x01000000⟩

/-- The port a presentation drives. -/
def Presentation.port : Presentation → Port
  | .condIn _ => .condIn
  | .shifter _ _ => .shifter
  | .word decoder _ => .iw decoder

/-- The bits of a presentation, numbered as the opcode table numbers them (R49). -/
def Presentation.bits : Presentation → Nat
  | .condIn code => code.toNat
  | .shifter isImmediate f => isImmediate.toNat * 65536 + f.toNat
  | .word _ iw => iw.toNat

end Sys2Proof
end

