-- ==== Sys2Proof/Machine/State.lean ====
section
/-! DEFINITION. The state of a run through the block.
The block itself stores nothing (R10 to R14, R191): what stands here is what its caller drives, has still to present
and has collected (R15, R197), and the OPEN parameters the machine takes as an argument (R7). -/

namespace Sys2Proof.Machine

/-- R197: the result of one pair (input, chosen decoder), "the observation of a run is that sequence of results and
nothing else".
`condition` and `data` carry the mnemonic group that belongs to the decoder (R16, R124). -/
inductive Observation where
  | condition (code : ConditionCode) (mnemonic : String)
  | shifter (result : DecodeResult ShifterOperand)
  | data (result : DecodeResult DataInstruction) (mnemonic : String)
  | multiply (value : Multiply)
  | swap (value : Swap)
  | branchExchange (value : Branch)
  | branch (value : Branch)
  deriving DecidableEq, Repr

/-- The inputs and the record of a run. The block has no field of its own in it (R10).
DESIGN CHOICE, safe; log entry 4. -/
structure State where
  /-- R7: the OPEN parameters; no step changes them. -/
  design : Config
  /-- R15: what is on the input ports now; `none` when they carry no value (R192). -/
  driven : Option Presentation
  /-- R197: the pairs the caller has still to present. -/
  pending : List Presentation
  /-- R197: the results collected so far, oldest first. -/
  observed : List Observation
  deriving DecidableEq, Repr

/-- R190, R191, R192: there is nothing to reset; nothing is driven, no word is substituted, nothing is collected. -/
def State.reset : State where
  design := Config.standard
  driven := none
  pending := []
  observed := []

/-- Why the machine stops with a fault: never. The block takes no trap and raises nothing (R171, R172, R176), and a
decode error is a value on its outputs, so no constructor stands here. -/
inductive Fault where
  deriving DecidableEq, Repr

/-- Why a step gives no next state. -/
inductive Refusal where
  /-- Raised by an arm of `exec` whose instruction has no meaning yet; safe. No arm raises it today. -/
  | notModelled (mnemonic : String)
  /-- Raised by `step` when the caller has nothing to present: "without an argument there is no result" (R192); safe. -/
  | noInput
  deriving DecidableEq, Repr

end Sys2Proof.Machine
end

