-- ==== Sys2Proof/Machine/Ops.lean ====
section
/-! DEFINITION. The two operations on a run: driving the inputs and collecting a result (R15, R197).
The spec describes no exception entry and no return (R176, R177), no register access (R11) and no memory access (R25),
so no operation for them stands here. -/

namespace Sys2Proof.Machine

/-- The caller drives the input ports with the next pair of its sequence (R15, R197). -/
def State.drive (s : State) (p : Presentation) (rest : List Presentation) : State :=
  { s with driven := some p, pending := rest }

/-- The caller collects the result of the decoder it chose (R197). -/
def State.collect (s : State) (o : Observation) : State :=
  { s with observed := s.observed ++ [o] }

/-- A decode always answers a next state: it raises nothing and leaves nothing else behind (R171, R176). -/
def answer (o : Observation) (s : State) : Host.Outcome State Fault Refusal :=
  .next (s.collect o)

end Sys2Proof.Machine
end

