-- ==== Sys2Proof/Machine/BranchForms.lean ====
section
/-! DEFINITION. The Branch decoder (R160, R162, R163) and the meanings of the BX and B rows.
No target is computed, no link register is written and nothing is scaled (R164). -/

namespace Sys2Proof

/-- R163: the 24-bit two's-complement field widened to 32 bits, its signed value kept. -/
def branchOffset (raw : BitVec 24) : BitVec 32 :=
  raw.signExtend 32

/-- R160: infallible, always the BranchAndExchange variant. -/
def Branch.fromBitsBx (iw : Word) : Branch :=
  .branchAndExchange (getRegister iw 0)

/-- R162: infallible, always the Branch variant. -/
def Branch.fromBitsBranch (iw : Word) : Branch :=
  .branch (branchOffset (getBits iw 0 24)) (isFlagSet iw 24)

end Sys2Proof

namespace Sys2Proof.Machine

/-- R165, R166: the record of a row, whose link flag is fixed. -/
def branchRow (link : Bool) (raw : BitVec 24) (s : State) : Host.Outcome State Fault Refusal :=
  answer (.branch (.branch (branchOffset raw) link)) s

/-- R160: the register is named, not read. -/
def execBx (register : Register) (s : State) : Host.Outcome State Fault Refusal :=
  answer (.branchExchange (.branchAndExchange register)) s

/-- R165. -/
def execB (offset : BitVec 24) (s : State) : Host.Outcome State Fault Refusal :=
  branchRow false offset s

/-- R166. -/
def execBl (offset : BitVec 24) (s : State) : Host.Outcome State Fault Refusal :=
  branchRow true offset s

end Sys2Proof.Machine
end

