-- ==== Sys2Proof/Machine/Flags.lean ====
section
/-! DEFINITION. The ConditionCode decoder and its mnemonics (R60, R61, R78).
The block holds no processor flag and evaluates no condition (R13; 41_condition_code.md section 4): "a model of the
block must not either", so no flag computation stands here. -/

namespace Sys2Proof

/-- R60: the enumerants in the order of their codes. -/
def ConditionCode.table : Vector ConditionCode 16 :=
  #v[.equal, .notEqual, .carrySet, .carryClear, .minus, .plus, .overflowSet, .overflowClear,
    .unsignedHigher, .unsignedLowerOrSame, .signedGreaterThanOrEqual, .signedLessThan,
    .signedGreaterThan, .signedLessThanOrEqual, .always, .never]

/-- R60: "direct table lookup", total over the 4-bit domain. -/
def ConditionCode.fromBits (c : BitVec 4) : ConditionCode :=
  ConditionCode.table[c.toNat]'c.isLt

/-- R78, D5: on wires the enumerant is the 4-bit code it was decoded from. -/
def ConditionCode.toBits : ConditionCode → BitVec 4
  | .equal => 0b0000#4
  | .notEqual => 0b0001#4
  | .carrySet => 0b0010#4
  | .carryClear => 0b0011#4
  | .minus => 0b0100#4
  | .plus => 0b0101#4
  | .overflowSet => 0b0110#4
  | .overflowClear => 0b0111#4
  | .unsignedHigher => 0b1000#4
  | .unsignedLowerOrSame => 0b1001#4
  | .signedGreaterThanOrEqual => 0b1010#4
  | .signedLessThan => 0b1011#4
  | .signedGreaterThan => 0b1100#4
  | .signedLessThanOrEqual => 0b1101#4
  | .always => 0b1110#4
  | .never => 0b1111#4

/-- R48, R61: the fixed table of two-letter mnemonics, indexed by the code. -/
def ConditionCode.mnemonics : Vector String 16 :=
  #v["eq", "ne", "cs", "cc", "mi", "pl", "vs", "vc", "hi", "ls", "ge", "lt", "gt", "le", "al", "nv"]

/-- R61. -/
def ConditionCode.toMnemonic (cc : ConditionCode) : String :=
  ConditionCode.mnemonics[cc.toBits.toNat]'cc.toBits.isLt

end Sys2Proof
end

