-- ==== Sys2Proof/Machine/ConditionCodes.lean ====
section
/-! DEFINITION. The meanings of the COND4 rows (R62 to R77): the enumerant and its mnemonic.
None writes a flag and none can fail. -/

namespace Sys2Proof.Machine

/-- R16: the groups `cond` and `cond_mnemonic`. -/
def conditionRow (cc : ConditionCode) (s : State) : Host.Outcome State Fault Refusal :=
  answer (.condition cc cc.toMnemonic) s

/-- R62. -/
def execCondEq (s : State) : Host.Outcome State Fault Refusal :=
  conditionRow .equal s

/-- R63. -/
def execCondNe (s : State) : Host.Outcome State Fault Refusal :=
  conditionRow .notEqual s

/-- R64. -/
def execCondCs (s : State) : Host.Outcome State Fault Refusal :=
  conditionRow .carrySet s

/-- R65. -/
def execCondCc (s : State) : Host.Outcome State Fault Refusal :=
  conditionRow .carryClear s

/-- R66. -/
def execCondMi (s : State) : Host.Outcome State Fault Refusal :=
  conditionRow .minus s

/-- R67. -/
def execCondPl (s : State) : Host.Outcome State Fault Refusal :=
  conditionRow .plus s

/-- R68. -/
def execCondVs (s : State) : Host.Outcome State Fault Refusal :=
  conditionRow .overflowSet s

/-- R69. -/
def execCondVc (s : State) : Host.Outcome State Fault Refusal :=
  conditionRow .overflowClear s

/-- R70. -/
def execCondHi (s : State) : Host.Outcome State Fault Refusal :=
  conditionRow .unsignedHigher s

/-- R71. -/
def execCondLs (s : State) : Host.Outcome State Fault Refusal :=
  conditionRow .unsignedLowerOrSame s

/-- R72. -/
def execCondGe (s : State) : Host.Outcome State Fault Refusal :=
  conditionRow .signedGreaterThanOrEqual s

/-- R73. -/
def execCondLt (s : State) : Host.Outcome State Fault Refusal :=
  conditionRow .signedLessThan s

/-- R74. -/
def execCondGt (s : State) : Host.Outcome State Fault Refusal :=
  conditionRow .signedGreaterThan s

/-- R75. -/
def execCondLe (s : State) : Host.Outcome State Fault Refusal :=
  conditionRow .signedLessThanOrEqual s

/-- R76. -/
def execCondAl (s : State) : Host.Outcome State Fault Refusal :=
  conditionRow .always s

/-- R77. -/
def execCondNv (s : State) : Host.Outcome State Fault Refusal :=
  conditionRow .never s

end Sys2Proof.Machine
end

