-- ==== Sys2Proof/Machine/Operands.lean ====
section
/-! DEFINITION. The ShifterOperand decoder, all its operand forms (R80 to R87, R96). -/

namespace Sys2Proof

/-- R82: "mapped 0b00→LogicalLeft, 0b01→LogicalRight, 0b10→ArithmeticRight, 0b11→RotateRight". -/
def ShiftOperation.table : Vector ShiftOperation 4 :=
  #v[.logicalLeft, .logicalRight, .arithmeticRight, .rotateRight]

/-- R82: total over the four codes. -/
def ShiftOperation.fromCode (c : BitVec 2) : ShiftOperation :=
  ShiftOperation.table[c.toNat]'c.isLt

/-- D5: on wires the operation is the 2-bit code it was decoded from. -/
def ShiftOperation.toBits : ShiftOperation → BitVec 2
  | .logicalLeft => 0b00#2
  | .logicalRight => 0b01#2
  | .arithmeticRight => 0b10#2
  | .rotateRight => 0b11#2

/-- R80: the two fields as extracted; the rotation is not done. -/
def ShifterOperand.fromImmediate (f : Field) : ShifterOperand :=
  .immediate (getBits f 0 8) (getBits f 8 4)

/-- R83: the literal amount is four bits in a five-bit container. -/
def literalAmount (v : BitVec 4) : BitVec 5 :=
  v.setWidth 5

/-- R81: the four steps of the source, with the block's only error (R85). -/
def ShifterOperand.fromRegisterOperand (f : Field) : DecodeResult ShifterOperand :=
  let source := getRegister f 0
  let operation := ShiftOperation.fromCode (getBits f 5 2)
  if isFlagSet f 4 then
    if isFlagSet f 7 then
      .err (.invalidShifterOperand f)
    else
      .ok (.shift operation source (.register (getRegister f 8)))
  else
    .ok (.shift operation source (.value (literalAmount (getBits f 7 4))))

/-- R96: the immediate-select flag chooses the entry point. -/
def ShifterOperand.decode (isImmediate : Bool) (f : Field) : DecodeResult ShifterOperand :=
  if isImmediate then .ok (ShifterOperand.fromImmediate f) else ShifterOperand.fromRegisterOperand f

end Sys2Proof
end

