-- ==== Sys2Proof/Machine/DataProcessing.lean ====
section
/-! DEFINITION. The DataOpcode and DataInstruction decoders (R100, R101, R120, R121) and the meanings of the DP rows
(R102 to R117). -/

namespace Sys2Proof

/-- R100: the enumerants in the order of their codes.
The spec reads the source's list order as the code order (D12); PRESUMED, unsafe, log entry 3. -/
def DataOpcode.table : Vector DataOpcode 16 :=
  #v[.and, .exclusiveOr, .subtract, .reverseSubtract, .add, .addWithCarry, .subtractWithCarry,
    .reverseSubtractWithCarry, .test, .testEquivalence, .compare, .compareNegated, .or, .move, .bitClear, .moveNot]

/-- R100: "direct table lookup, total over the 4-bit domain". -/
def DataOpcode.fromBits (c : BitVec 4) : DataOpcode :=
  DataOpcode.table[c.toNat]'c.isLt

/-- D5: on wires the enumerant is the 4-bit code it was decoded from. -/
def DataOpcode.toBits : DataOpcode → BitVec 4
  | .and => 0b0000#4
  | .exclusiveOr => 0b0001#4
  | .subtract => 0b0010#4
  | .reverseSubtract => 0b0011#4
  | .add => 0b0100#4
  | .addWithCarry => 0b0101#4
  | .subtractWithCarry => 0b0110#4
  | .reverseSubtractWithCarry => 0b0111#4
  | .test => 0b1000#4
  | .testEquivalence => 0b1001#4
  | .compare => 0b1010#4
  | .compareNegated => 0b1011#4
  | .or => 0b1100#4
  | .move => 0b1101#4
  | .bitClear => 0b1110#4
  | .moveNot => 0b1111#4

/-- R101: the three-letter mnemonic, from the OPEN table `DATA_MNEMONICS`. -/
def DataOpcode.toMnemonic (cfg : Config) (op : DataOpcode) : String :=
  cfg.dataMnemonics[op.toBits.toNat]'op.toBits.isLt

/-- R120: the source's five extractions; an error of the shifter operand propagates verbatim (R121). -/
def DataInstruction.fromBits (iw : Word) : DecodeResult DataInstruction :=
  let isImmediate := isFlagSet iw 25
  let setConditionCodes := isFlagSet iw 20
  let destination := getRegister iw 12
  let operand1 := getRegister iw 16
  let opcode := DataOpcode.fromBits (getBits iw 21 4)
  let f := getBits iw 0 16
  if isImmediate then
    .ok { operand1, operand2 := ShifterOperand.fromImmediate f, destination, opcode, setConditionCodes }
  else
    match ShifterOperand.fromRegisterOperand f with
    | .err e => .err e
    | .ok operand2 => .ok { operand1, operand2, destination, opcode, setConditionCodes }

end Sys2Proof

namespace Sys2Proof.Machine

/-- R102 to R117: the decoded record of a row, whose opcode is fixed.
"Bit 25 and the shifter field are fields of the row, decoded by the SHIFTER16 rows" (R49). -/
def dataResult (op : DataOpcode) (d : DataFields) : DecodeResult DataInstruction :=
  match ShifterOperand.decode d.isImmediate d.shifterField with
  | .err e => .err e
  | .ok operand2 => .ok
      { operand1 := d.operand1, operand2, destination := d.destination, opcode := op,
        setConditionCodes := d.setConditionCodes }

/-- R16: the groups `dp` and `dp_mnemonic`; the mnemonic does not depend on the shifter error (R124). -/
def dataRow (op : DataOpcode) (d : DataFields) (s : State) : Host.Outcome State Fault Refusal :=
  answer (.data (dataResult op d) (op.toMnemonic s.design)) s

/-- R102. -/
def execDpAnd (d : DataFields) (s : State) : Host.Outcome State Fault Refusal :=
  dataRow .and d s

/-- R103. -/
def execDpEor (d : DataFields) (s : State) : Host.Outcome State Fault Refusal :=
  dataRow .exclusiveOr d s

/-- R104. -/
def execDpSub (d : DataFields) (s : State) : Host.Outcome State Fault Refusal :=
  dataRow .subtract d s

/-- R105. -/
def execDpRsb (d : DataFields) (s : State) : Host.Outcome State Fault Refusal :=
  dataRow .reverseSubtract d s

/-- R106. -/
def execDpAdd (d : DataFields) (s : State) : Host.Outcome State Fault Refusal :=
  dataRow .add d s

/-- R107. -/
def execDpAdc (d : DataFields) (s : State) : Host.Outcome State Fault Refusal :=
  dataRow .addWithCarry d s

/-- R108. -/
def execDpSbc (d : DataFields) (s : State) : Host.Outcome State Fault Refusal :=
  dataRow .subtractWithCarry d s

/-- R109. -/
def execDpRsc (d : DataFields) (s : State) : Host.Outcome State Fault Refusal :=
  dataRow .reverseSubtractWithCarry d s

/-- R110; either value of `set_condition_codes` is accepted (R122). -/
def execDpTst (d : DataFields) (s : State) : Host.Outcome State Fault Refusal :=
  dataRow .test d s

/-- R111; either value of `set_condition_codes` is accepted (R122). -/
def execDpTeq (d : DataFields) (s : State) : Host.Outcome State Fault Refusal :=
  dataRow .testEquivalence d s

/-- R112; either value of `set_condition_codes` is accepted (R122). -/
def execDpCmp (d : DataFields) (s : State) : Host.Outcome State Fault Refusal :=
  dataRow .compare d s

/-- R113; either value of `set_condition_codes` is accepted (R122). -/
def execDpCmn (d : DataFields) (s : State) : Host.Outcome State Fault Refusal :=
  dataRow .compareNegated d s

/-- R114. -/
def execDpOrr (d : DataFields) (s : State) : Host.Outcome State Fault Refusal :=
  dataRow .or d s

/-- R115; `operand1` is extracted like for every opcode. -/
def execDpMov (d : DataFields) (s : State) : Host.Outcome State Fault Refusal :=
  dataRow .move d s

/-- R116. -/
def execDpBic (d : DataFields) (s : State) : Host.Outcome State Fault Refusal :=
  dataRow .bitClear d s

/-- R117; `operand1` is extracted like for every opcode. -/
def execDpMvn (d : DataFields) (s : State) : Host.Outcome State Fault Refusal :=
  dataRow .moveNot d s

end Sys2Proof.Machine
end

