-- ==== Sys2Proof/Machine/MultiplyForms.lean ====
section
/-! DEFINITION. The Multiply decoder (R130) and the meanings of the MUL rows (R131 to R138). -/

namespace Sys2Proof

/-- R130: infallible, eight fields at fixed positions. -/
def Multiply.fromBits (iw : Word) : Multiply where
  long := isFlagSet iw 23
  signed := isFlagSet iw 22
  accumulate := isFlagSet iw 21
  setConditionCodes := isFlagSet iw 20
  destination := getRegister iw 16
  operand1 := getRegister iw 12
  operand2 := getRegister iw 8
  operand3 := getRegister iw 0

end Sys2Proof

namespace Sys2Proof.Machine

/-- R131 to R138: the record of a row, whose three flags are fixed. -/
def multiplyRow (long signed accumulate : Bool) (m : MulFields) (s : State) : Host.Outcome State Fault Refusal :=
  answer (.multiply
    { long, signed, accumulate, setConditionCodes := m.setConditionCodes, operand1 := m.operand1,
      operand2 := m.operand2, operand3 := m.operand3, destination := m.destination }) s

/-- R131. -/
def execMulMul (m : MulFields) (s : State) : Host.Outcome State Fault Refusal :=
  multiplyRow false false false m s

/-- R132. -/
def execMulMla (m : MulFields) (s : State) : Host.Outcome State Fault Refusal :=
  multiplyRow false false true m s

/-- R133. -/
def execMulMulSigned (m : MulFields) (s : State) : Host.Outcome State Fault Refusal :=
  multiplyRow false true false m s

/-- R134. -/
def execMulMlaSigned (m : MulFields) (s : State) : Host.Outcome State Fault Refusal :=
  multiplyRow false true true m s

/-- R135. -/
def execMulUmull (m : MulFields) (s : State) : Host.Outcome State Fault Refusal :=
  multiplyRow true false false m s

/-- R136. -/
def execMulUmlal (m : MulFields) (s : State) : Host.Outcome State Fault Refusal :=
  multiplyRow true false true m s

/-- R137. -/
def execMulSmull (m : MulFields) (s : State) : Host.Outcome State Fault Refusal :=
  multiplyRow true true false m s

/-- R138. -/
def execMulSmlal (m : MulFields) (s : State) : Host.Outcome State Fault Refusal :=
  multiplyRow true true true m s

end Sys2Proof.Machine
end

