-- ==== Sys2Proof/Machine/ShifterForms.lean ====
section
/-! DEFINITION. The meanings of the SHIFTER16 rows: the ShifterOperand, or the error of the invalid form.
The error is a value on the outputs: the row answers a next state like any other (R170 to R172). -/

namespace Sys2Proof.Machine

/-- R88 to R91: a register shifted by a literal amount. -/
def literalShiftRow (op : ShiftOperation) (amount : BitVec 4) (source : Register) (s : State) :
    Host.Outcome State Fault Refusal :=
  answer (.shifter (.ok (.shift op source (.value (literalAmount amount))))) s

/-- R92 to R95: a register shifted by a register's low byte. -/
def registerShiftRow (op : ShiftOperation) (amountRegister source : Register) (s : State) :
    Host.Outcome State Fault Refusal :=
  answer (.shifter (.ok (.shift op source (.register amountRegister)))) s

/-- R80. -/
def execShImm (value : BitVec 8) (rotate : BitVec 4) (s : State) : Host.Outcome State Fault Refusal :=
  answer (.shifter (.ok (.immediate value rotate))) s

/-- R88. -/
def execShLslLiteral (amount : BitVec 4) (source : Register) (s : State) : Host.Outcome State Fault Refusal :=
  literalShiftRow .logicalLeft amount source s

/-- R89. -/
def execShLsrLiteral (amount : BitVec 4) (source : Register) (s : State) : Host.Outcome State Fault Refusal :=
  literalShiftRow .logicalRight amount source s

/-- R90. -/
def execShAsrLiteral (amount : BitVec 4) (source : Register) (s : State) : Host.Outcome State Fault Refusal :=
  literalShiftRow .arithmeticRight amount source s

/-- R91. -/
def execShRorLiteral (amount : BitVec 4) (source : Register) (s : State) : Host.Outcome State Fault Refusal :=
  literalShiftRow .rotateRight amount source s

/-- R92. -/
def execShLslRegister (amountRegister source : Register) (s : State) : Host.Outcome State Fault Refusal :=
  registerShiftRow .logicalLeft amountRegister source s

/-- R93. -/
def execShLsrRegister (amountRegister source : Register) (s : State) : Host.Outcome State Fault Refusal :=
  registerShiftRow .logicalRight amountRegister source s

/-- R94. -/
def execShAsrRegister (amountRegister source : Register) (s : State) : Host.Outcome State Fault Refusal :=
  registerShiftRow .arithmeticRight amountRegister source s

/-- R95. -/
def execShRorRegister (amountRegister source : Register) (s : State) : Host.Outcome State Fault Refusal :=
  registerShiftRow .rotateRight amountRegister source s

/-- R85: the whole 16-bit field is the payload. -/
def execShInvalid (payload : Field) (s : State) : Host.Outcome State Fault Refusal :=
  answer (.shifter (.err (.invalidShifterOperand payload))) s

end Sys2Proof.Machine
end

