-- ==== Sys2Proof/Machine/SwapForms.lean ====
section
/-! DEFINITION. The Swap decoder (R150) and the meanings of the SWP rows (R151, R152).
It builds a descriptor; nothing is exchanged and no memory is read or written (R25, R33). -/

namespace Sys2Proof

/-- R150: infallible; "`size = Byte if bit[22] else Word`". -/
def Swap.fromBits (iw : Word) : Swap where
  source := getRegister iw 0
  destination := getRegister iw 12
  base := getRegister iw 16
  size := if isFlagSet iw 22 then .byte else .word

end Sys2Proof

namespace Sys2Proof.Machine

/-- R151, R152: the record of a row, whose size is fixed. -/
def swapRow (size : SwapSize) (w : SwapFields) (s : State) : Host.Outcome State Fault Refusal :=
  answer (.swap { source := w.source, destination := w.destination, base := w.base, size }) s

/-- R151: "cleared yields `Word`". -/
def execSwpWord (w : SwapFields) (s : State) : Host.Outcome State Fault Refusal :=
  swapRow .word w s

/-- R152. -/
def execSwpByte (w : SwapFields) (s : State) : Host.Outcome State Fault Refusal :=
  swapRow .byte w s

end Sys2Proof.Machine
end

