-- ==== Sys2Proof/Machine/Dispatch.lean ====
section
/-! DEFINITION. The dispatch of an instruction to its meaning, one arm for each row of spec/opcode_table.json. -/

namespace Sys2Proof.Machine

def exec (i : Instr) (s : State) : Host.Outcome State Fault Refusal :=
  match i with
  | .condEq => Sys2Proof.Machine.execCondEq s
  | .condNe => Sys2Proof.Machine.execCondNe s
  | .condCs => Sys2Proof.Machine.execCondCs s
  | .condCc => Sys2Proof.Machine.execCondCc s
  | .condMi => Sys2Proof.Machine.execCondMi s
  | .condPl => Sys2Proof.Machine.execCondPl s
  | .condVs => Sys2Proof.Machine.execCondVs s
  | .condVc => Sys2Proof.Machine.execCondVc s
  | .condHi => Sys2Proof.Machine.execCondHi s
  | .condLs => Sys2Proof.Machine.execCondLs s
  | .condGe => Sys2Proof.Machine.execCondGe s
  | .condLt => Sys2Proof.Machine.execCondLt s
  | .condGt => Sys2Proof.Machine.execCondGt s
  | .condLe => Sys2Proof.Machine.execCondLe s
  | .condAl => Sys2Proof.Machine.execCondAl s
  | .condNv => Sys2Proof.Machine.execCondNv s
  | .dpAnd d => Sys2Proof.Machine.execDpAnd d s
  | .dpEor d => Sys2Proof.Machine.execDpEor d s
  | .dpSub d => Sys2Proof.Machine.execDpSub d s
  | .dpRsb d => Sys2Proof.Machine.execDpRsb d s
  | .dpAdd d => Sys2Proof.Machine.execDpAdd d s
  | .dpAdc d => Sys2Proof.Machine.execDpAdc d s
  | .dpSbc d => Sys2Proof.Machine.execDpSbc d s
  | .dpRsc d => Sys2Proof.Machine.execDpRsc d s
  | .dpTst d => Sys2Proof.Machine.execDpTst d s
  | .dpTeq d => Sys2Proof.Machine.execDpTeq d s
  | .dpCmp d => Sys2Proof.Machine.execDpCmp d s
  | .dpCmn d => Sys2Proof.Machine.execDpCmn d s
  | .dpOrr d => Sys2Proof.Machine.execDpOrr d s
  | .dpMov d => Sys2Proof.Machine.execDpMov d s
  | .dpBic d => Sys2Proof.Machine.execDpBic d s
  | .dpMvn d => Sys2Proof.Machine.execDpMvn d s
  | .shImm value rotate => Sys2Proof.Machine.execShImm value rotate s
  | .shLslLiteral amount source => Sys2Proof.Machine.execShLslLiteral amount source s
  | .shLsrLiteral amount source => Sys2Proof.Machine.execShLsrLiteral amount source s
  | .shAsrLiteral amount source => Sys2Proof.Machine.execShAsrLiteral amount source s
  | .shRorLiteral amount source => Sys2Proof.Machine.execShRorLiteral amount source s
  | .shLslRegister amountRegister source => Sys2Proof.Machine.execShLslRegister amountRegister source s
  | .shLsrRegister amountRegister source => Sys2Proof.Machine.execShLsrRegister amountRegister source s
  | .shAsrRegister amountRegister source => Sys2Proof.Machine.execShAsrRegister amountRegister source s
  | .shRorRegister amountRegister source => Sys2Proof.Machine.execShRorRegister amountRegister source s
  | .shInvalid payload => Sys2Proof.Machine.execShInvalid payload s
  | .mulMul m => Sys2Proof.Machine.execMulMul m s
  | .mulMla m => Sys2Proof.Machine.execMulMla m s
  | .mulMulSigned m => Sys2Proof.Machine.execMulMulSigned m s
  | .mulMlaSigned m => Sys2Proof.Machine.execMulMlaSigned m s
  | .mulUmull m => Sys2Proof.Machine.execMulUmull m s
  | .mulUmlal m => Sys2Proof.Machine.execMulUmlal m s
  | .mulSmull m => Sys2Proof.Machine.execMulSmull m s
  | .mulSmlal m => Sys2Proof.Machine.execMulSmlal m s
  | .swpWord w => Sys2Proof.Machine.execSwpWord w s
  | .swpByte w => Sys2Proof.Machine.execSwpByte w s
  | .bx register => Sys2Proof.Machine.execBx register s
  | .b offset => Sys2Proof.Machine.execB offset s
  | .bl offset => Sys2Proof.Machine.execBl offset s

end Sys2Proof.Machine
end

