-- ==== Sys2Proof/Machine/Step.lean ====
section
/-! DEFINITION. One step: the caller drives its next pair and collects the result (R197). -/

namespace Sys2Proof.Machine

/-- R197: the next pair is driven on the inputs, decoded, and its result collected.
With nothing to present there is no result, and no word is substituted (R192): log entry 6, safe. -/
def step (s : State) : Host.Outcome State Fault Refusal :=
  match s.pending with
  | [] => .refused .noInput
  | p :: rest => exec (decode s.design p) (s.drive p rest)

/-- The pair that a bare table word stands for, put where `step` takes its next pair; log entries 4 and 5.
A number that fits no port is not presented, and `step` then refuses, as `decodeTableWord` does. -/
def State.withFetchWord (s : State) (nbits w : Nat) : State :=
  match tablePresentation nbits w with
  | some p => { s with pending := p :: s.pending }
  | none => { s with pending := [] }

end Sys2Proof.Machine
end

