-- ==== Sys2Proof/Machine/Outputs.lean ====
section
/-! DEFINITION. The ports of the block and its eight parallel output groups (R15, R16).
Every output is a function of what is driven now and of nothing else (R10).
A port or group that carries no value is `none` (R192). -/

namespace Sys2Proof.Machine

/-- R15: the port `iw`. -/
def State.iw (s : State) : Option Word :=
  match s.driven with
  | some (.word _ iw) => some iw
  | _ => none

/-- R15: the port `cond_in`, driven on its own or tied to `iw`. -/
def State.condIn (s : State) : Option (BitVec 4) :=
  match s.driven with
  | some (.condIn code) => some code
  | some (.word _ iw) => some (tiedCondition s.design iw)
  | _ => none

/-- R15: the inputs `so_is_imm` and `so_field` of the ShifterOperand sub-block, driven on their own or by `iw[25]`
and `iw[15:0]`. -/
def State.shifterIn (s : State) : Option (Bool × Field) :=
  match s.driven with
  | some (.shifter isImmediate f) => some (isImmediate, f)
  | some (.word _ iw) => some (isFlagSet iw 25, getBits iw 0 16)
  | _ => none

/-- R16: the output groups; `so` is the internal output of the ShifterOperand sub-block (R97). -/
structure Outputs where
  cond : Option ConditionCode
  condMnemonic : Option String
  so : Option (DecodeResult ShifterOperand)
  dp : Option (DecodeResult DataInstruction)
  dpMnemonic : Option String
  mul : Option Multiply
  swp : Option Swap
  bx : Option Branch
  b : Option Branch
  deriving DecidableEq, Repr

/-- R16: all decoders evaluate in parallel on what is driven; the block chooses none. -/
def State.outputs (s : State) : Outputs where
  cond := s.condIn.map ConditionCode.fromBits
  condMnemonic := s.condIn.map fun c => (ConditionCode.fromBits c).toMnemonic
  so := s.shifterIn.map fun p => ShifterOperand.decode p.1 p.2
  dp := s.iw.map DataInstruction.fromBits
  dpMnemonic := s.iw.map fun iw => (DataOpcode.fromBits (getBits iw 21 4)).toMnemonic s.design
  mul := s.iw.map Multiply.fromBits
  swp := s.iw.map Swap.fromBits
  bx := s.iw.map Branch.fromBitsBx
  b := s.iw.map Branch.fromBitsBranch

/-- R16, R197: the result a caller collects for a pair, by the decoder functions themselves (R60, R96, R120, R130,
R150, R160, R162) and without the opcode table. -/
def chosenResult (cfg : Config) : Presentation → Observation
  | .condIn c => .condition (ConditionCode.fromBits c) (ConditionCode.fromBits c).toMnemonic
  | .shifter isImmediate f => .shifter (ShifterOperand.decode isImmediate f)
  | .word .condition iw =>
      .condition (ConditionCode.fromBits (tiedCondition cfg iw)) (ConditionCode.fromBits (tiedCondition cfg iw)).toMnemonic
  | .word .dataInstruction iw =>
      .data (DataInstruction.fromBits iw) ((DataOpcode.fromBits (getBits iw 21 4)).toMnemonic cfg)
  | .word .multiply iw => .multiply (Multiply.fromBits iw)
  | .word .swap iw => .swap (Swap.fromBits iw)
  | .word .branchExchange iw => .branchExchange (Branch.fromBitsBx iw)
  | .word .branch iw => .branch (Branch.fromBitsBranch iw)

end Sys2Proof.Machine
end

