-- ==== Sys2Proof/Machine/Wires.lean ====
section
/-! DEFINITION. The wires of each output group (R97, R124, R140, R153, R161, R167) and of the mnemonics (R61, R101).
A wire that carries no value for the current variant, or under `Err`, is `none` (R24, D6); safe, log entry 9. -/

namespace Sys2Proof.Machine

/-- R97: the wires of the ShifterOperand sub-block. -/
structure ShifterWires where
  err : Bool
  errPayload : Option Field
  kind : Option Bool
  value : Option (BitVec 8)
  rotate : Option (BitVec 4)
  operation : Option (BitVec 2)
  source : Option (BitVec 4)
  amountKind : Option Bool
  amountReg : Option (BitVec 4)
  amountVal : Option (BitVec 5)
  deriving DecidableEq, Repr

/-- R97: no wire carries a value. -/
def ShifterWires.silent : ShifterWires :=
  ⟨false, none, none, none, none, none, none, none, none, none⟩

/-- R97: the wires of a decoded operand; `so_kind` is 1 for Immediate, `so_amount_kind` is 1 for Register. -/
def operandWires : ShifterOperand → ShifterWires
  | .immediate value rotate => { ShifterWires.silent with kind := some true, value := some value, rotate := some rotate }
  | .shift operation source (.register r) =>
      { ShifterWires.silent with
        kind := some false, operation := some operation.toBits, source := some source.index,
        amountKind := some true, amountReg := some r.index }
  | .shift operation source (.value v) =>
      { ShifterWires.silent with
        kind := some false, operation := some operation.toBits, source := some source.index,
        amountKind := some false, amountVal := some v }

/-- R97: the wires of an error: only the payload is meaningful. -/
def errorWires : DecodeError → ShifterWires
  | .invalidShifterOperand f => { ShifterWires.silent with err := true, errPayload := some f }

/-- R97. -/
def shifterWires : DecodeResult ShifterOperand → ShifterWires
  | .ok v => operandWires v
  | .err e => errorWires e

/-- R124: the wires of the `dp` group; `dp_err` and `dp_err_payload` are those of `operand2`. -/
structure DataWires where
  opcode : Option (BitVec 4)
  setConditionCodes : Option Bool
  operand1 : Option (BitVec 4)
  destination : Option (BitVec 4)
  operand2 : ShifterWires
  deriving DecidableEq, Repr

/-- R124: `dp_err = so_err`. -/
def DataWires.err (w : DataWires) : Bool := w.operand2.err

/-- R124: "When `dp_err = 1` only `dp_err_payload` is meaningful". -/
def dataWires : DecodeResult DataInstruction → DataWires
  | .ok d => ⟨some d.opcode.toBits, some d.setConditionCodes, some d.operand1.index, some d.destination.index,
      operandWires d.operand2⟩
  | .err e => ⟨none, none, none, none, errorWires e⟩

/-- R140: the wires of the `mul` group. -/
structure MultiplyWires where
  long : Bool
  signed : Bool
  accumulate : Bool
  setConditionCodes : Bool
  destination : BitVec 4
  operand1 : BitVec 4
  operand2 : BitVec 4
  operand3 : BitVec 4
  deriving DecidableEq, Repr

/-- R140: always meaningful. -/
def multiplyWires (m : Multiply) : MultiplyWires :=
  ⟨m.long, m.signed, m.accumulate, m.setConditionCodes, m.destination.index, m.operand1.index, m.operand2.index,
    m.operand3.index⟩

/-- R153: the wires of the `swp` group. -/
structure SwapWires where
  size : Bool
  base : BitVec 4
  destination : BitVec 4
  source : BitVec 4
  deriving DecidableEq, Repr

/-- D5: 1 is Byte. -/
def SwapSize.wire : SwapSize → Bool
  | .byte => true
  | .word => false

/-- R153: always meaningful. -/
def swapWires (w : Swap) : SwapWires :=
  ⟨SwapSize.wire w.size, w.base.index, w.destination.index, w.source.index⟩

/-- R161, R167: the wires of the `bx` and `b` groups; each group has the wires of its own variant. -/
structure BranchWires where
  register : Option (BitVec 4)
  offset : Option (BitVec 32)
  link : Option Bool
  deriving DecidableEq, Repr

/-- R161, R167. -/
def branchWires : Branch → BranchWires
  | .branchAndExchange r => ⟨some r.index, none, none⟩
  | .branch offset link => ⟨none, some offset, some link⟩

/-- R61, R101, D19: a mnemonic on wires, ASCII bytes with the first character in the highest byte. -/
def mnemonicWires (letters : Nat) (m : String) : BitVec (8 * letters) :=
  BitVec.ofNat (8 * letters) (m.toList.foldl (fun bytes c => bytes * 256 + c.toNat) 0)

/-- The wires of all the output groups (R16). -/
structure OutputWires where
  cond : Option (BitVec 4)
  condMnemonic : Option (BitVec 16)
  so : Option ShifterWires
  dp : Option DataWires
  dpMnemonic : Option (BitVec 24)
  mul : Option MultiplyWires
  swp : Option SwapWires
  bx : Option BranchWires
  b : Option BranchWires
  deriving DecidableEq, Repr

/-- The wire rendering of the output groups (R16, D5); "it adds no behaviour". -/
def Outputs.wires (o : Outputs) : OutputWires where
  cond := o.cond.map ConditionCode.toBits
  condMnemonic := o.condMnemonic.map (mnemonicWires 2)
  so := o.so.map shifterWires
  dp := o.dp.map dataWires
  dpMnemonic := o.dpMnemonic.map (mnemonicWires 3)
  mul := o.mul.map multiplyWires
  swp := o.swp.map swapWires
  bx := o.bx.map branchWires
  b := o.b.map branchWires

end Sys2Proof.Machine
end

