-- ==== Sys2Proof/Safety.lean ====
section
/-! DEFINITION. What a run through the block may record (R19, R20, R23, R85, R101), stated on the values alone, and
the invariant of a run. -/

namespace Sys2Proof

/-- R19: "in every value this block produces, `0 <= v <= 15`". -/
def ShiftOperand.producible : ShiftOperand → Bool
  | .register _ => true
  | .value v => decide (v.toNat ≤ 15)

/-- R19. -/
def ShifterOperand.producible : ShifterOperand → Bool
  | .immediate _ _ => true
  | .shift _ _ operand => operand.producible

/-- R85: the payload of an error has bit 4 and bit 7 set. -/
def DecodeError.producible : DecodeError → Bool
  | .invalidShifterOperand f => invalidPayload f

end Sys2Proof

namespace Sys2Proof.Machine

/-- The results the block can give, by their own form: mnemonics belong to their enumerants (R61, R101), a literal
amount is at most 15 (R19), an error's payload is an invalid field (R85), each branch entry point keeps its variant
and its offset range (R160, R162, R163). -/
def Observation.Producible (cfg : Config) : Observation → Prop
  | .condition code mnemonic => mnemonic = code.toMnemonic
  | .shifter (.ok v) => v.producible
  | .shifter (.err e) => e.producible
  | .data (.ok d) mnemonic => d.operand2.producible ∧ mnemonic = d.opcode.toMnemonic cfg
  | .data (.err e) mnemonic => e.producible ∧ ∃ op : DataOpcode, mnemonic = op.toMnemonic cfg
  | .multiply _ => True
  | .swap _ => True
  | .branchExchange v => ∃ r, v = .branchAndExchange r
  | .branch v => ∃ offset link, v = .branch offset link ∧ -8388608 ≤ offset.toInt ∧ offset.toInt ≤ 8388607

/-- The invariant of a run: a legal mnemonic table (R101), and only results the block can give on record. -/
def State.Inv (s : State) : Prop :=
  s.design.wf = true ∧ ∀ o ∈ s.observed, o.Producible s.design

end Sys2Proof.Machine
end

