-- ==== Sys2Proof/Certificates/Slice0/Obligations.lean ====
section
/-! DEFINITION. The statements for the provers.
Where a slice of a word is written out here it is the library's `extractLsb'` or `getLsbD`, never the model's `getBits`. -/

open Sys2Proof Sys2Proof.Machine

/-- The sixteen DP rows (R100, R102 to R117): the code in bits 24:21, the row's constructor, its opcode.
The order of the codes is the spec's own decision D12 (log entry 3). -/
def Sys2Proof.dataRowsOfTheTable : List (BitVec 4 × (DataFields → Instr) × DataOpcode) :=
  [(0b0000#4, .dpAnd, .and),
    (0b0001#4, .dpEor, .exclusiveOr),
    (0b0010#4, .dpSub, .subtract),
    (0b0011#4, .dpRsb, .reverseSubtract),
    (0b0100#4, .dpAdd, .add),
    (0b0101#4, .dpAdc, .addWithCarry),
    (0b0110#4, .dpSbc, .subtractWithCarry),
    (0b0111#4, .dpRsc, .reverseSubtractWithCarry),
    (0b1000#4, .dpTst, .test),
    (0b1001#4, .dpTeq, .testEquivalence),
    (0b1010#4, .dpCmp, .compare),
    (0b1011#4, .dpCmn, .compareNegated),
    (0b1100#4, .dpOrr, .or),
    (0b1101#4, .dpMov, .move),
    (0b1110#4, .dpBic, .bitClear),
    (0b1111#4, .dpMvn, .moveNot)]

/-! ### Encoding -/

/-- 30_encoding.md sections 3 to 5: no bit of an encoding is dropped.
For every well-formed instruction, whatever the OPEN parameters. -/
def Obligations.DecodeOfEncodeIsTheInstruction : Prop :=
  ∀ (cfg : Config) (i : Instr), i.wellFormed = true → decode cfg (encode i) = i

/-- R37, R85: what is decoded from any input is well formed. -/
def Obligations.DecodedInstructionsAreWellFormed : Prop :=
  ∀ (cfg : Config) (p : Presentation), (decode cfg p).wellFormed = true

/-- R37 to R42, R44: encoding what was decoded gives the input back with exactly the ignored bits cleared.
The encoder's zeros are the model's choice, log entry 11. -/
def Obligations.EncodeOfDecodeClearsExactlyTheIgnoredBits : Prop :=
  ∀ cfg : Config,
    (∀ c, encode (decode cfg (.condIn c)) = .condIn c) ∧
    (∀ iw, encode (decode cfg (.word .dataInstruction iw)) = .word .dataInstruction (iw &&& 0x03FFFFFF#32)) ∧
    (∀ iw, encode (decode cfg (.word .multiply iw)) = .word .multiply (iw &&& 0x00FFFF0F#32)) ∧
    (∀ iw, encode (decode cfg (.word .swap iw)) = .word .swap (iw &&& 0x004FF00F#32)) ∧
    (∀ iw, encode (decode cfg (.word .branchExchange iw)) = .word .branchExchange (iw &&& 0x0000000F#32)) ∧
    (∀ iw, encode (decode cfg (.word .branch iw)) = .word .branch (iw &&& 0x01FFFFFF#32)) ∧
    (∀ f, encode (decode cfg (.shifter true f)) = .shifter true (f &&& 0x0FFF#16)) ∧
    (∀ f, f.getLsbD 4 = false → encode (decode cfg (.shifter false f)) = .shifter false (f &&& 0x07FF#16)) ∧
    (∀ f, f.getLsbD 4 = true → f.getLsbD 7 = false →
      encode (decode cfg (.shifter false f)) = .shifter false (f &&& 0x0FFF#16)) ∧
    (∀ f, f.getLsbD 4 = true → f.getLsbD 7 = true → encode (decode cfg (.shifter false f)) = .shifter false f)

/-- R49: the rows of one format are disjoint and cover every input: an input shows the match of the row it decodes to
under that row's mask, and of no other row of its format. -/
def Obligations.TheTableRowsOfAFormatPartitionItsInputs : Prop :=
  ∀ (cfg : Config) (p : Presentation), p.port ≠ .iw .condition →
    (decode cfg p).row.port = p.port ∧ p.bits &&& (decode cfg p).row.mask = (decode cfg p).row.pattern ∧
      ∀ i : Instr, i.row.port = p.port → p.bits &&& i.row.mask = i.row.pattern → i.row = (decode cfg p).row

/-- A few words written out bit by bit from the field maps R37 to R43 (sanity). -/
def Obligations.SampleWordsDecodeToTheirInstructions : Prop :=
  ∀ cfg : Config,
    decode cfg (.condIn 0b1011#4) = .condLt ∧
    decode cfg (.word .dataInstruction 0b1110_00_0_0100_0_0000_0001_00010_00_0_0000#32)
      = .dpAdd ⟨false, false, ⟨0⟩, ⟨1⟩, 0b0001_00010_00_0_0000#16⟩ ∧
    decode cfg (.shifter false 0b0000_1100_0_10_1_0101#16) = .shAsrRegister ⟨12⟩ ⟨5⟩ ∧
    decode cfg (.word .multiply 0b1110_0000_111_1_0101_0100_0111_1001_0110#32) = .mulSmlal ⟨true, ⟨5⟩, ⟨4⟩, ⟨7⟩, ⟨6⟩⟩ ∧
    decode cfg (.word .swap 0b1110_00010_1_00_0010_0000_00001001_0001#32) = .swpByte ⟨⟨2⟩, ⟨0⟩, ⟨1⟩⟩ ∧
    decode cfg (.word .branchExchange 0b1110_000100101111111111110001_1110#32) = .bx ⟨14⟩ ∧
    decode cfg (.word .branch 0b1110101_1_000000000000000000010000#32) = .bl 16#24

/-- R15, R43: the top-level tie of `cond_in` to four bits of `iw`, whatever `COND_LSB` is. -/
def Obligations.TheConditionIsTiedToTheWord : Prop :=
  ∀ (cfg : Config) (iw : Word),
    decode cfg (.word .condition iw) = decode cfg (.condIn (iw.extractLsb' cfg.condLsb.val 4))

/-- R173: a raw value that does not fit its port is refused by name, never given a value. -/
def Obligations.ValuesWiderThanThePortAreRefusedByName : Prop :=
  ∀ (cfg : Config) (port : Port) (value : Nat),
    (2 ^ port.width ≤ value → decodeRaw cfg port value = .error (.widerThanPort port value)) ∧
    (value < 2 ^ port.width →
      ∃ p : Presentation, p.port = port ∧ p.bits = value ∧ decodeRaw cfg port value = .ok (decode cfg p))

/-! ### The BitField utilities -/

/-- R50, R51, R52: the primitives inside their precondition, with the example of each rule. -/
def Obligations.BitFieldPrimitivesFollowTheirDefinitions : Prop :=
  (∀ (W : Nat) (w : BitVec W) (o l : Nat) (h : o + l ≤ W),
    (getBits w o l h).toNat = w.toNat / 2 ^ o % 2 ^ l ∧ (getBits w o l h).toNat ≤ 2 ^ l - 1 ∧
    ∀ i, i < l → (getBits w o l h).getLsbD i = w.getLsbD (o + i)) ∧
  (∀ (W : Nat) (w : BitVec W) (o : Nat) (h : o + 1 ≤ W),
    isFlagSet w o h = (getBits w o 1 h == 1#1) ∧ isFlagSet w o h = w.getLsbD o) ∧
  (∀ (W : Nat) (w : BitVec W) (o : Nat) (h : o + 4 ≤ W), getRegister w o h = ⟨w.extractLsb' o 4⟩) ∧
  getBits 0b110010000101#16 7 4 = 9#4 ∧ isFlagSet 0x02000000#32 25 = true ∧ isFlagSet 0x02000000#32 24 = false ∧
  getRegister 0x00000C85#32 0 = ⟨5⟩

/-- R53, R17, R173: a use outside the precondition has no result, and every use inside it has one.
That the checked forms answer `none` is one of the two ways R53 leaves to a model: log entry 8. -/
def Obligations.UsesOutsideThePreconditionHaveNoResult : Prop :=
  (∀ (W : Nat) (w : BitVec W) (o l : Nat),
    (W < o + l → getBits? w o l = none) ∧
    (o + l ≤ W → ∃ v : BitVec l, getBits? w o l = some v ∧ v.toNat = w.toNat / 2 ^ o % 2 ^ l)) ∧
  (∀ (W : Nat) (w : BitVec W) (o : Nat),
    (W < o + 1 → isFlagSet? w o = none) ∧ (o + 1 ≤ W → isFlagSet? w o = some (w.getLsbD o))) ∧
  (∀ (W : Nat) (w : BitVec W) (o : Nat),
    (W < o + 4 → getRegister? w o = none) ∧ (o + 4 ≤ W → getRegister? w o = some ⟨w.extractLsb' o 4⟩)) ∧
  (∀ i, (15 < i → Register.fromIndex? i = none) ∧ (i ≤ 15 → Register.fromIndex? i = some ⟨BitVec.ofNat 4 i⟩))

/-- R54: range, identity, locality, composition, split, width independence. -/
def Obligations.BitFieldLaws : Prop :=
  (∀ (W : Nat) (w : BitVec W) (o l : Nat) (h : o + l ≤ W), (getBits w o l h).toNat < 2 ^ l) ∧
  (∀ (W : Nat) (w : BitVec W) (h : 0 + W ≤ W), getBits w 0 W h = w) ∧
  (∀ (W : Nat) (w w' : BitVec W) (o l : Nat) (h : o + l ≤ W),
    (∀ i, o ≤ i → i < o + l → w.getLsbD i = w'.getLsbD i) → getBits w o l h = getBits w' o l h) ∧
  (∀ (W : Nat) (w : BitVec W) (o l o' l' : Nat) (h : o + l ≤ W) (h' : o' + l' ≤ l) (h'' : o + o' + l' ≤ W),
    getBits (getBits w o l h) o' l' h' = getBits w (o + o') l' h'') ∧
  (∀ (W : Nat) (w : BitVec W) (o l1 l2 : Nat) (h : o + (l1 + l2) ≤ W) (h1 : o + l1 ≤ W) (h2 : o + l1 + l2 ≤ W),
    (getBits w o (l1 + l2) h).toNat = (getBits w o l1 h1).toNat + 2 ^ l1 * (getBits w (o + l1) l2 h2).toNat) ∧
  (∀ (W1 W2 : Nat) (w : BitVec W1) (o l : Nat) (h1 : o + l ≤ W1) (h2 : o + l ≤ W2), W1 ≤ W2 →
    getBits (w.setWidth W2) o l h2 = getBits w o l h1)

/-! ### Results of the rows, and their completion -/

/-- R62 to R69: code, row, enumerant, mnemonic, and the example word of each rule. -/
def Obligations.ConditionRowsEqualToOverflowClear : Prop :=
  ∀ r ∈ [(0b0000#4, Instr.condEq, ConditionCode.equal, "eq", 0x0A000000#32),
      (0b0001#4, .condNe, .notEqual, "ne", 0x1AFFFFFD#32),
      (0b0010#4, .condCs, .carrySet, "cs", 0x2A000000#32),
      (0b0011#4, .condCc, .carryClear, "cc", 0x3A000000#32),
      (0b0100#4, .condMi, .minus, "mi", 0x4A000000#32),
      (0b0101#4, .condPl, .plus, "pl", 0x5A000000#32),
      (0b0110#4, .condVs, .overflowSet, "vs", 0x6A000000#32),
      (0b0111#4, .condVc, .overflowClear, "vc", 0x7A000000#32)],
    (∀ s : State, exec r.2.1 s = .next { s with observed := s.observed ++ [.condition r.2.2.1 r.2.2.2.1] }) ∧
    (∀ cfg : Config, decode cfg (.condIn r.1) = r.2.1) ∧
    ConditionCode.fromBits r.1 = r.2.2.1 ∧ r.2.2.1.toMnemonic = r.2.2.2.1 ∧
    (∀ cfg : Config, cfg.condLsb = 28 →
      tiedCondition cfg r.2.2.2.2 = r.1 ∧ decode cfg (.word .condition r.2.2.2.2) = r.2.1)

/-- R70 to R77: code, row, enumerant, mnemonic, and the example word of each rule. -/
def Obligations.ConditionRowsUnsignedHigherToNever : Prop :=
  ∀ r ∈ [(0b1000#4, Instr.condHi, ConditionCode.unsignedHigher, "hi", 0x8A000000#32),
      (0b1001#4, .condLs, .unsignedLowerOrSame, "ls", 0x9A000000#32),
      (0b1010#4, .condGe, .signedGreaterThanOrEqual, "ge", 0xAA000000#32),
      (0b1011#4, .condLt, .signedLessThan, "lt", 0xBA000000#32),
      (0b1100#4, .condGt, .signedGreaterThan, "gt", 0xCA000000#32),
      (0b1101#4, .condLe, .signedLessThanOrEqual, "le", 0xDA000000#32),
      (0b1110#4, .condAl, .always, "al", 0xE3A0000A#32),
      (0b1111#4, .condNv, .never, "nv", 0xFA000000#32)],
    (∀ s : State, exec r.2.1 s = .next { s with observed := s.observed ++ [.condition r.2.2.1 r.2.2.2.1] }) ∧
    (∀ cfg : Config, decode cfg (.condIn r.1) = r.2.1) ∧
    ConditionCode.fromBits r.1 = r.2.2.1 ∧ r.2.2.1.toMnemonic = r.2.2.2.1 ∧
    (∀ cfg : Config, cfg.condLsb = 28 →
      tiedCondition cfg r.2.2.2.2 = r.1 ∧ decode cfg (.word .condition r.2.2.2.2) = r.2.1)

/-- R78: `from_bits` is a bijection in code order; R61: the mnemonics are distinct two-letter strings, their distinctness
being the spec's own inference, "[derived: from the table of rule R60]". -/
def Obligations.TheConditionDecoderIsABijection : Prop :=
  (List.range 16).map (fun n => ConditionCode.fromBits (BitVec.ofNat 4 n))
    = [.equal, .notEqual, .carrySet, .carryClear, .minus, .plus, .overflowSet, .overflowClear, .unsignedHigher,
        .unsignedLowerOrSame, .signedGreaterThanOrEqual, .signedLessThan, .signedGreaterThan, .signedLessThanOrEqual,
        .always, .never] ∧
  (∀ c : BitVec 4, (ConditionCode.fromBits c).toBits = c) ∧
  (∀ cc : ConditionCode, ConditionCode.fromBits cc.toBits = cc) ∧
  (∀ a b : ConditionCode, a.toMnemonic = b.toMnemonic → a = b) ∧
  (∀ cc : ConditionCode, cc.toMnemonic.toList.length = 2 ∧ cc.toMnemonic.toList.all Char.isLower = true)

/-- R100, R37: bits 24:21 select the row, and the row's fields are the slices of R37.
The order of the codes is the spec's own decision D12 (log entry 3). -/
def Obligations.TheOpcodeFieldSelectsTheDataRow : Prop :=
  ∀ r ∈ dataRowsOfTheTable,
    ∀ (cfg : Config) (iw : Word), iw.extractLsb' 21 4 = r.1 →
      DataOpcode.fromBits (iw.extractLsb' 21 4) = r.2.2 ∧
      decode cfg (.word .dataInstruction iw) = r.2.1 ⟨iw.getLsbD 25, iw.getLsbD 20, ⟨iw.extractLsb' 16 4⟩,
        ⟨iw.extractLsb' 12 4⟩, iw.extractLsb' 0 16⟩

/-- R80, R102 to R117: a data row whose second operand is a rotated immediate; the rotation is not done.
The mnemonic is the entry of the OPEN table at the opcode's code. -/
def Obligations.DataRowsWithARotatedImmediate : Prop :=
  ∀ r ∈ dataRowsOfTheTable,
    ∀ (d : DataFields) (s : State), d.isImmediate = true →
      exec (r.2.1 d) s = .next { s with observed := s.observed ++ [.data
        (.ok ⟨d.operand1, .immediate (d.shifterField.extractLsb' 0 8) (d.shifterField.extractLsb' 8 4), d.destination,
          r.2.2, d.setConditionCodes⟩)
        (s.design.dataMnemonics[r.1.toNat]'r.1.isLt)] }

/-- R83, R102 to R117: a data row whose second operand is a register shifted by a literal; bit 11 is not read. -/
def Obligations.DataRowsWithALiteralShift : Prop :=
  ∀ r ∈ dataRowsOfTheTable,
    ∀ (d : DataFields) (s : State), d.isImmediate = false → d.shifterField.getLsbD 4 = false →
      exec (r.2.1 d) s = .next { s with observed := s.observed ++ [.data
        (.ok ⟨d.operand1,
          .shift (ShiftOperation.fromCode (d.shifterField.extractLsb' 5 2)) ⟨d.shifterField.extractLsb' 0 4⟩
            (.value ((d.shifterField.extractLsb' 7 4).setWidth 5)),
          d.destination, r.2.2, d.setConditionCodes⟩)
        (s.design.dataMnemonics[r.1.toNat]'r.1.isLt)] }

/-- R84, R102 to R117: a data row whose second operand is a register shifted by a register. -/
def Obligations.DataRowsWithARegisterShift : Prop :=
  ∀ r ∈ dataRowsOfTheTable,
    ∀ (d : DataFields) (s : State), d.isImmediate = false → d.shifterField.getLsbD 4 = true →
      d.shifterField.getLsbD 7 = false →
      exec (r.2.1 d) s = .next { s with observed := s.observed ++ [.data
        (.ok ⟨d.operand1,
          .shift (ShiftOperation.fromCode (d.shifterField.extractLsb' 5 2)) ⟨d.shifterField.extractLsb' 0 4⟩
            (.register ⟨d.shifterField.extractLsb' 8 4⟩),
          d.destination, r.2.2, d.setConditionCodes⟩)
        (s.design.dataMnemonics[r.1.toNat]'r.1.isLt)] }

/-- R121, R102 to R117: a data row whose shifter field is invalid records the error with the whole field and no
partial instruction; it is a next state like any other (R172). -/
def Obligations.DataRowsWithAnInvalidShifterField : Prop :=
  ∀ r ∈ dataRowsOfTheTable,
    ∀ (d : DataFields) (s : State), d.isImmediate = false → d.shifterField.getLsbD 4 = true →
      d.shifterField.getLsbD 7 = true →
      exec (r.2.1 d) s = .next { s with observed := s.observed ++ [.data (.err (.invalidShifterOperand d.shifterField))
        (s.design.dataMnemonics[r.1.toNat]'r.1.isLt)] }

/-- R88 to R91: pattern, result and example of the four literal-shift rows (the spec derives the examples but R88's
from R81). -/
def Obligations.LiteralShiftRows : Prop :=
  ∀ r ∈ [(0b000#3, Instr.shLslLiteral, ShiftOperation.logicalLeft, 0x0C85#16),
      (0b010#3, .shLsrLiteral, .logicalRight, 0x0CA5#16),
      (0b100#3, .shAsrLiteral, .arithmeticRight, 0x0CC5#16),
      (0b110#3, .shRorLiteral, .rotateRight, 0x0CE5#16)],
    (∀ amount source (s : State), exec (r.2.1 amount source) s = .next { s with observed := s.observed ++
      [.shifter (.ok (.shift r.2.2.1 source (.value (amount.setWidth 5))))] }) ∧
    (∀ (cfg : Config) (f : Field), f.extractLsb' 4 3 = r.1 →
      decode cfg (.shifter false f) = r.2.1 (f.extractLsb' 7 4) ⟨f.extractLsb' 0 4⟩ ∧
      ShifterOperand.fromRegisterOperand f
        = .ok (.shift r.2.2.1 ⟨f.extractLsb' 0 4⟩ (.value ((f.extractLsb' 7 4).setWidth 5)))) ∧
    ShifterOperand.fromRegisterOperand r.2.2.2 = .ok (.shift r.2.2.1 ⟨5⟩ (.value 9))

/-- R92 to R95: pattern, result and example of the four register-shift rows (the spec derives the examples from R81). -/
def Obligations.RegisterShiftRows : Prop :=
  ∀ r ∈ [(0b0001#4, Instr.shLslRegister, ShiftOperation.logicalLeft, 0x0C15#16),
      (0b0011#4, .shLsrRegister, .logicalRight, 0x0C35#16),
      (0b0101#4, .shAsrRegister, .arithmeticRight, 0x0C55#16),
      (0b0111#4, .shRorRegister, .rotateRight, 0x0C75#16)],
    (∀ amountRegister source (s : State), exec (r.2.1 amountRegister source) s = .next { s with observed := s.observed ++
      [.shifter (.ok (.shift r.2.2.1 source (.register amountRegister)))] }) ∧
    (∀ (cfg : Config) (f : Field), f.extractLsb' 4 4 = r.1 →
      decode cfg (.shifter false f) = r.2.1 ⟨f.extractLsb' 8 4⟩ ⟨f.extractLsb' 0 4⟩ ∧
      ShifterOperand.fromRegisterOperand f
        = .ok (.shift r.2.2.1 ⟨f.extractLsb' 0 4⟩ (.register ⟨f.extractLsb' 8 4⟩))) ∧
    ShifterOperand.fromRegisterOperand r.2.2.2 = .ok (.shift r.2.2.1 ⟨5⟩ (.register ⟨12⟩))

/-- R80, R85: the immediate row, never invalid, and the invalid row, which records the whole field. -/
def Obligations.ImmediateAndInvalidShifterRows : Prop :=
  (∀ value rotate (s : State), exec (.shImm value rotate) s = .next { s with observed := s.observed ++
    [.shifter (.ok (.immediate value rotate))] }) ∧
  (∀ (cfg : Config) (f : Field),
    decode cfg (.shifter true f) = .shImm (f.extractLsb' 0 8) (f.extractLsb' 8 4) ∧
    ShifterOperand.fromImmediate f = .immediate (f.extractLsb' 0 8) (f.extractLsb' 8 4)) ∧
  ShifterOperand.fromImmediate 0b11111010_11001100#16 = .immediate 0b11001100#8 0b1010#4 ∧
  (∀ payload (s : State), exec (.shInvalid payload) s = .next { s with observed := s.observed ++
    [.shifter (.err (.invalidShifterOperand payload))] }) ∧
  (∀ (cfg : Config) (f : Field), f &&& 0x0090#16 = 0x0090#16 →
    decode cfg (.shifter false f) = .shInvalid f ∧
    ShifterOperand.fromRegisterOperand f = .err (.invalidShifterOperand f)) ∧
  (∀ (f : Field) (e : DecodeError), ShifterOperand.fromRegisterOperand f = .err e → f &&& 0x0090#16 = 0x0090#16) ∧
  ShifterOperand.fromRegisterOperand 0b10111_001_0101#16 = .err (.invalidShifterOperand 0b10111_001_0101#16)

/-- R130 to R138: the flags that select each row, its result, and the example of each rule (the spec derives the
examples from R130). -/
def Obligations.MultiplyRows : Prop :=
  ∀ r ∈ [(0b000#3, Instr.mulMul, 0xE0030291#32, (⟨false, ⟨3⟩, ⟨0⟩, ⟨2⟩, ⟨1⟩⟩ : MulFields)),
      (0b001#3, .mulMla, 0xE0243291#32, ⟨false, ⟨4⟩, ⟨3⟩, ⟨2⟩, ⟨1⟩⟩),
      (0b010#3, .mulMulSigned, 0xE0454796#32, ⟨false, ⟨5⟩, ⟨4⟩, ⟨7⟩, ⟨6⟩⟩),
      (0b011#3, .mulMlaSigned, 0xE0654796#32, ⟨false, ⟨5⟩, ⟨4⟩, ⟨7⟩, ⟨6⟩⟩),
      (0b100#3, .mulUmull, 0xE0854796#32, ⟨false, ⟨5⟩, ⟨4⟩, ⟨7⟩, ⟨6⟩⟩),
      (0b101#3, .mulUmlal, 0xE0A54796#32, ⟨false, ⟨5⟩, ⟨4⟩, ⟨7⟩, ⟨6⟩⟩),
      (0b110#3, .mulSmull, 0xE0C54796#32, ⟨false, ⟨5⟩, ⟨4⟩, ⟨7⟩, ⟨6⟩⟩),
      (0b111#3, .mulSmlal, 0xE0F54796#32, ⟨true, ⟨5⟩, ⟨4⟩, ⟨7⟩, ⟨6⟩⟩)],
    (∀ (m : MulFields) (s : State), exec (r.2.1 m) s = .next { s with observed := s.observed ++ [.multiply
      { long := r.1.getLsbD 2, signed := r.1.getLsbD 1, accumulate := r.1.getLsbD 0,
        setConditionCodes := m.setConditionCodes, operand1 := m.operand1, operand2 := m.operand2,
        operand3 := m.operand3, destination := m.destination }] }) ∧
    (∀ (cfg : Config) (iw : Word), iw.extractLsb' 21 3 = r.1 →
      decode cfg (.word .multiply iw) = r.2.1
        { setConditionCodes := iw.getLsbD 20, destination := ⟨iw.extractLsb' 16 4⟩, operand1 := ⟨iw.extractLsb' 12 4⟩,
          operand2 := ⟨iw.extractLsb' 8 4⟩, operand3 := ⟨iw.extractLsb' 0 4⟩ } ∧
      Multiply.fromBits iw =
        { long := r.1.getLsbD 2, signed := r.1.getLsbD 1, accumulate := r.1.getLsbD 0,
          setConditionCodes := iw.getLsbD 20, destination := ⟨iw.extractLsb' 16 4⟩, operand1 := ⟨iw.extractLsb' 12 4⟩,
          operand2 := ⟨iw.extractLsb' 8 4⟩, operand3 := ⟨iw.extractLsb' 0 4⟩ }) ∧
    (∀ cfg : Config, decode cfg (.word .multiply r.2.2.1) = r.2.1 r.2.2.2)

/-- R150, R151, R152: the size flag selects the row; registers, result and example of each rule. -/
def Obligations.SwapRows : Prop :=
  ∀ r ∈ [(false, Instr.swpWord, SwapSize.word, 0xE1020091#32), (true, .swpByte, .byte, 0xE1420091#32)],
    (∀ (w : SwapFields) (s : State), exec (r.2.1 w) s = .next { s with observed := s.observed ++ [.swap
      { source := w.source, destination := w.destination, base := w.base, size := r.2.2.1 }] }) ∧
    (∀ (cfg : Config) (iw : Word), iw.getLsbD 22 = r.1 →
      decode cfg (.word .swap iw) = r.2.1
        { base := ⟨iw.extractLsb' 16 4⟩, destination := ⟨iw.extractLsb' 12 4⟩, source := ⟨iw.extractLsb' 0 4⟩ } ∧
      Swap.fromBits iw =
        { source := ⟨iw.extractLsb' 0 4⟩, destination := ⟨iw.extractLsb' 12 4⟩, base := ⟨iw.extractLsb' 16 4⟩,
          size := r.2.2.1 }) ∧
    Swap.fromBits r.2.2.2 = { source := ⟨1⟩, destination := ⟨0⟩, base := ⟨2⟩, size := r.2.2.1 }

/-- R160: only bits 3:0 are read; the result, the independence of the 28 other bits, and the example. -/
def Obligations.TheBranchExchangeRow : Prop :=
  (∀ register (s : State), exec (.bx register) s = .next { s with observed := s.observed ++
    [.branchExchange (.branchAndExchange register)] }) ∧
  (∀ (cfg : Config) (iw : Word), decode cfg (.word .branchExchange iw) = .bx ⟨iw.extractLsb' 0 4⟩ ∧
    Branch.fromBitsBx iw = .branchAndExchange ⟨iw.extractLsb' 0 4⟩) ∧
  (∀ a b : Word, a.extractLsb' 0 4 = b.extractLsb' 0 4 → Branch.fromBitsBx a = Branch.fromBitsBx b) ∧
  Branch.fromBitsBx 0xE12FFF1E#32 = .branchAndExchange ⟨14⟩

/-- R162, R165, R166: the link flag selects the row; result and examples of each rule. -/
def Obligations.TheBranchRows : Prop :=
  ∀ r ∈ [(false, Instr.b, 0x1AFFFFFD#32, (-3 : Int)), (true, .bl, 0xEB000010#32, 16)],
    (∀ raw (s : State), exec (r.2.1 raw) s = .next { s with observed := s.observed ++
      [.branch (.branch (raw.signExtend 32) r.1)] }) ∧
    (∀ (cfg : Config) (iw : Word), iw.getLsbD 24 = r.1 →
      decode cfg (.word .branch iw) = r.2.1 (iw.extractLsb' 0 24) ∧
      Branch.fromBitsBranch iw = .branch ((iw.extractLsb' 0 24).signExtend 32) r.1) ∧
    Branch.fromBitsBranch r.2.2.1 = .branch (BitVec.ofInt 32 r.2.2.2) r.1 ∧
    Branch.fromBitsBranch 0x00FFFFFF#32 = .branch (BitVec.ofInt 32 (-1)) false ∧
    Branch.fromBitsBranch 0x01522D52#32 = .branch 0x522D52#32 true

/-- R163: the three forms of the sign extension, its range, its corner values and its injectivity. -/
def Obligations.TheBranchOffsetIsTheSignExtendedField : Prop :=
  (∀ raw : BitVec 24,
    branchOffset raw = (raw.setWidth 32 <<< 8).sshiftRight 8 ∧
    (raw.toNat < 2 ^ 23 → (branchOffset raw).toInt = raw.toNat) ∧
    (2 ^ 23 ≤ raw.toNat → (branchOffset raw).toInt = raw.toNat - 2 ^ 24) ∧
    (branchOffset raw).extractLsb' 0 24 = raw ∧
    (∀ i, 24 ≤ i → i < 32 → (branchOffset raw).getLsbD i = raw.getLsbD 23) ∧
    -8388608 ≤ (branchOffset raw).toInt ∧ (branchOffset raw).toInt ≤ 8388607) ∧
  (∀ r ∈ [(0x000000#24, (0 : Int), 0x00000000#32), (0x000001#24, 1, 0x00000001#32), (0x7FFFFF#24, 8388607, 0x007FFFFF#32),
      (0x800000#24, -8388608, 0xFF800000#32), (0xFFFFFE#24, -2, 0xFFFFFFFE#32), (0xFFFFFF#24, -1, 0xFFFFFFFF#32)],
    (branchOffset r.1).toInt = r.2.1 ∧ branchOffset r.1 = r.2.2) ∧
  (∀ a b : BitVec 24, branchOffset a = branchOffset b → a = b)

/-! ### The decoder functions -/

/-- R120, R121: the result in each of the four cases of bits 25, 4 and 7, and the example of each rule. -/
def Obligations.TheDataInstructionDecoderFollowsItsFieldMap : Prop :=
  (∀ iw : Word,
    let record (operand2 : ShifterOperand) : DataInstruction :=
      { operand1 := ⟨iw.extractLsb' 16 4⟩, operand2, destination := ⟨iw.extractLsb' 12 4⟩,
        opcode := DataOpcode.fromBits (iw.extractLsb' 21 4), setConditionCodes := iw.getLsbD 20 }
    (iw.getLsbD 25 = true →
      DataInstruction.fromBits iw = .ok (record (.immediate (iw.extractLsb' 0 8) (iw.extractLsb' 8 4)))) ∧
    (iw.getLsbD 25 = false → iw.getLsbD 4 = false →
      DataInstruction.fromBits iw = .ok (record (.shift (ShiftOperation.fromCode (iw.extractLsb' 5 2))
        ⟨iw.extractLsb' 0 4⟩ (.value ((iw.extractLsb' 7 4).setWidth 5))))) ∧
    (iw.getLsbD 25 = false → iw.getLsbD 4 = true → iw.getLsbD 7 = false →
      DataInstruction.fromBits iw = .ok (record (.shift (ShiftOperation.fromCode (iw.extractLsb' 5 2))
        ⟨iw.extractLsb' 0 4⟩ (.register ⟨iw.extractLsb' 8 4⟩)))) ∧
    (iw.getLsbD 25 = false → iw.getLsbD 4 = true → iw.getLsbD 7 = true →
      DataInstruction.fromBits iw = .err (.invalidShifterOperand (iw.extractLsb' 0 16)))) ∧
  DataInstruction.fromBits 0xE0801100#32
    = .ok ⟨⟨0⟩, .shift .logicalLeft ⟨0⟩ (.value 2), ⟨1⟩, DataOpcode.fromBits 0b0100#4, false⟩ ∧
  DataInstruction.fromBits 0xE0030291#32 = .err (.invalidShifterOperand 0x0291#16)

/-- R46: the one invalid encoding, as a pattern on the word, and its payload. -/
def Obligations.TheOneInvalidEncoding : Prop :=
  ∀ iw : Word,
    ((∃ e, DataInstruction.fromBits iw = .err e) ↔ iw &&& 0x02000090#32 = 0x00000090#32) ∧
    (∀ e, DataInstruction.fromBits iw = .err e → e = .invalidShifterOperand (iw.extractLsb' 0 16))

/-- R81, R82, R96: the shifted-register entry point in its three cases, the four operations, the choice between the two
entry points, and what drives the sub-block. -/
def Obligations.TheShifterFieldsFallInThreeCases : Prop :=
  (∀ f : Field,
    (f.getLsbD 4 = false → ShifterOperand.fromRegisterOperand f
      = .ok (.shift (ShiftOperation.fromCode (f.extractLsb' 5 2)) ⟨f.extractLsb' 0 4⟩
          (.value ((f.extractLsb' 7 4).setWidth 5)))) ∧
    (f.getLsbD 4 = true → f.getLsbD 7 = false → ShifterOperand.fromRegisterOperand f
      = .ok (.shift (ShiftOperation.fromCode (f.extractLsb' 5 2)) ⟨f.extractLsb' 0 4⟩
          (.register ⟨f.extractLsb' 8 4⟩))) ∧
    (f.getLsbD 4 = true → f.getLsbD 7 = true → ShifterOperand.fromRegisterOperand f = .err (.invalidShifterOperand f)) ∧
    (∀ e, ShifterOperand.fromRegisterOperand f = .err e →
      f.getLsbD 4 = true ∧ f.getLsbD 7 = true ∧ e = .invalidShifterOperand f) ∧
    ShifterOperand.decode true f = .ok (.immediate (f.extractLsb' 0 8) (f.extractLsb' 8 4)) ∧
    ShifterOperand.decode false f = ShifterOperand.fromRegisterOperand f) ∧
  ShifterOperand.fromRegisterOperand 0b11001_000_0101#16 = .ok (.shift .logicalLeft ⟨5⟩ (.value 9)) ∧
  ShiftOperation.fromCode 0b00#2 = .logicalLeft ∧ ShiftOperation.fromCode 0b01#2 = .logicalRight ∧
  ShiftOperation.fromCode 0b10#2 = .arithmeticRight ∧ ShiftOperation.fromCode 0b11#2 = .rotateRight ∧
  (∀ (s : State) (iw : Word), s.iw = some iw →
    s.outputs.so = some (ShifterOperand.decode (iw.getLsbD 25) (iw.extractLsb' 0 16)))

/-- R44, R122: no bit outside the field map changes a result: bits 31:26 of a data-processing word, and bit 11 of a
literal shift. -/
def Obligations.IgnoredBitsOfADataWordChangeNothing : Prop :=
  (∀ a b : Word, a &&& 0x03FFFFFF#32 = b &&& 0x03FFFFFF#32 → DataInstruction.fromBits a = DataInstruction.fromBits b) ∧
  (∀ iw : Word, iw.getLsbD 25 = false → iw.getLsbD 4 = false →
    DataInstruction.fromBits (iw ^^^ 0x00000800#32) = DataInstruction.fromBits iw)

/-- R123: two words that differ only in one field give results that differ only in that field of the record, and
whether a result is `Ok` depends on bits 25, 7 and 4 only. -/
def Obligations.TheFieldsOfADataInstructionAreIndependent : Prop :=
  (∀ (a b : Word) (da db : DataInstruction), DataInstruction.fromBits a = .ok da → DataInstruction.fromBits b = .ok db →
    (a &&& ~~~0x01E00000#32 = b &&& ~~~0x01E00000#32 → db = { da with opcode := db.opcode }) ∧
    (a &&& ~~~0x00100000#32 = b &&& ~~~0x00100000#32 → db = { da with setConditionCodes := db.setConditionCodes }) ∧
    (a &&& ~~~0x000F0000#32 = b &&& ~~~0x000F0000#32 → db = { da with operand1 := db.operand1 }) ∧
    (a &&& ~~~0x0000F000#32 = b &&& ~~~0x0000F000#32 → db = { da with destination := db.destination }) ∧
    (a &&& ~~~0x02000000#32 = b &&& ~~~0x02000000#32 → db = { da with operand2 := db.operand2 }) ∧
    (a &&& ~~~0x0000FFFF#32 = b &&& ~~~0x0000FFFF#32 →
      db = { da with operand2 := db.operand2, destination := db.destination })) ∧
  (∀ a b : Word, a &&& 0x02000090#32 = b &&& 0x02000090#32 →
    ((∃ da, DataInstruction.fromBits a = .ok da) ↔ ∃ db, DataInstruction.fromBits b = .ok db))

/-- R139: changing one flag bit changes one flag of the record.
That each field depends on its own bits only and that the decoder is injective on the bits it reads is the spec's own
inference, "[derived: from rule R130]". -/
def Obligations.TheMultiplyFlagsAreIndependent : Prop :=
  (∀ iw : Word,
    Multiply.fromBits (iw ^^^ 0x00800000#32) = { Multiply.fromBits iw with long := !(Multiply.fromBits iw).long } ∧
    Multiply.fromBits (iw ^^^ 0x00400000#32) = { Multiply.fromBits iw with signed := !(Multiply.fromBits iw).signed } ∧
    Multiply.fromBits (iw ^^^ 0x00200000#32)
      = { Multiply.fromBits iw with accumulate := !(Multiply.fromBits iw).accumulate } ∧
    Multiply.fromBits (iw ^^^ 0x00100000#32)
      = { Multiply.fromBits iw with setConditionCodes := !(Multiply.fromBits iw).setConditionCodes }) ∧
  (∀ a b : Word,
    (a.getLsbD 23 = b.getLsbD 23 ↔ (Multiply.fromBits a).long = (Multiply.fromBits b).long) ∧
    (a.getLsbD 22 = b.getLsbD 22 ↔ (Multiply.fromBits a).signed = (Multiply.fromBits b).signed) ∧
    (a.getLsbD 21 = b.getLsbD 21 ↔ (Multiply.fromBits a).accumulate = (Multiply.fromBits b).accumulate) ∧
    (a.getLsbD 20 = b.getLsbD 20 ↔ (Multiply.fromBits a).setConditionCodes = (Multiply.fromBits b).setConditionCodes) ∧
    (a.extractLsb' 16 4 = b.extractLsb' 16 4 ↔ (Multiply.fromBits a).destination = (Multiply.fromBits b).destination) ∧
    (a.extractLsb' 12 4 = b.extractLsb' 12 4 ↔ (Multiply.fromBits a).operand1 = (Multiply.fromBits b).operand1) ∧
    (a.extractLsb' 8 4 = b.extractLsb' 8 4 ↔ (Multiply.fromBits a).operand2 = (Multiply.fromBits b).operand2) ∧
    (a.extractLsb' 0 4 = b.extractLsb' 0 4 ↔ (Multiply.fromBits a).operand3 = (Multiply.fromBits b).operand3) ∧
    (Multiply.fromBits a = Multiply.fromBits b ↔ a &&& 0x00FFFF0F#32 = b &&& 0x00FFFF0F#32))

/-- R153: the four fields, injectivity on the 13 bits read, and the wires of the `swp` group. -/
def Obligations.TheSwapFieldsAndWires : Prop :=
  (∀ a b : Word, Swap.fromBits a = Swap.fromBits b ↔ a &&& 0x004FF00F#32 = b &&& 0x004FF00F#32) ∧
  (∀ a b : Word,
    (a.getLsbD 22 = b.getLsbD 22 → (Swap.fromBits a).size = (Swap.fromBits b).size) ∧
    (a.extractLsb' 16 4 = b.extractLsb' 16 4 → (Swap.fromBits a).base = (Swap.fromBits b).base) ∧
    (a.extractLsb' 12 4 = b.extractLsb' 12 4 → (Swap.fromBits a).destination = (Swap.fromBits b).destination) ∧
    (a.extractLsb' 0 4 = b.extractLsb' 0 4 → (Swap.fromBits a).source = (Swap.fromBits b).source)) ∧
  (∀ iw : Word, swapWires (Swap.fromBits iw)
    = { size := iw.getLsbD 22, base := iw.extractLsb' 16 4, destination := iw.extractLsb' 12 4,
        source := iw.extractLsb' 0 4 })

/-! ### The wires of the output groups -/

/-- R97, D5, D6: the wires of the ShifterOperand sub-block, kind by kind.
That a wire which carries no value is absent (under an error `so_kind` too) is log entry 9. -/
def Obligations.TheShifterWires : Prop :=
  ∀ (isImmediate : Bool) (f : Field),
    let w := shifterWires (ShifterOperand.decode isImmediate f)
    w.err = (!isImmediate && f.getLsbD 4 && f.getLsbD 7) ∧
    (w.err = true → w = { ShifterWires.silent with err := true, errPayload := some f }) ∧
    (isImmediate = true →
      w = { ShifterWires.silent with
        kind := some true, value := some (f.extractLsb' 0 8), rotate := some (f.extractLsb' 8 4) }) ∧
    (isImmediate = false → f.getLsbD 4 = true → w.err = false →
      w = { ShifterWires.silent with
        kind := some false, operation := some (f.extractLsb' 5 2), source := some (f.extractLsb' 0 4),
        amountKind := some true, amountReg := some (f.extractLsb' 8 4) }) ∧
    (isImmediate = false → f.getLsbD 4 = false →
      w = { ShifterWires.silent with
        kind := some false, operation := some (f.extractLsb' 5 2), source := some (f.extractLsb' 0 4),
        amountKind := some false, amountVal := some ((f.extractLsb' 7 4).setWidth 5) })

/-- R124, D5, D6: the wires of the `dp` group and of `dp_mnemonic`; `dp_err = so_err`, and only the payload is meaningful
under an error; that a wire which carries no value is absent is log entry 9. -/
def Obligations.TheDataWires : Prop :=
  ∀ iw : Word,
    let w := dataWires (DataInstruction.fromBits iw)
    w.operand2 = shifterWires (ShifterOperand.decode (iw.getLsbD 25) (iw.extractLsb' 0 16)) ∧
    w.err = (!iw.getLsbD 25 && iw.getLsbD 4 && iw.getLsbD 7) ∧
    (w.err = true →
      w = ⟨none, none, none, none,
        { ShifterWires.silent with err := true, errPayload := some (iw.extractLsb' 0 16) }⟩) ∧
    (w.err = false →
      w.opcode = some (iw.extractLsb' 21 4) ∧ w.setConditionCodes = some (iw.getLsbD 20) ∧
      w.operand1 = some (iw.extractLsb' 16 4) ∧ w.destination = some (iw.extractLsb' 12 4) ∧
      w.operand2.errPayload = none) ∧
    (∀ s : State, s.iw = some iw →
      s.outputs.dpMnemonic = some ((DataOpcode.fromBits (iw.extractLsb' 21 4)).toMnemonic s.design))

/-- R140, R161, R167: the wires of the `mul`, `bx` and `b` groups. -/
def Obligations.TheMultiplyAndBranchWires : Prop :=
  ∀ iw : Word,
    multiplyWires (Multiply.fromBits iw)
      = { long := iw.getLsbD 23, signed := iw.getLsbD 22, accumulate := iw.getLsbD 21,
          setConditionCodes := iw.getLsbD 20, destination := iw.extractLsb' 16 4, operand1 := iw.extractLsb' 12 4,
          operand2 := iw.extractLsb' 8 4, operand3 := iw.extractLsb' 0 4 } ∧
    branchWires (Branch.fromBitsBx iw) = ⟨some (iw.extractLsb' 0 4), none, none⟩ ∧
    ∃ offset : BitVec 32, branchWires (Branch.fromBitsBranch iw) = ⟨none, some offset, some (iw.getLsbD 24)⟩ ∧
      offset.extractLsb' 0 24 = iw.extractLsb' 0 24 ∧ ∀ i, 24 ≤ i → i < 32 → offset.getLsbD i = iw.getLsbD 23

/-- R61, R101, D19: the mnemonics on wires, first character in the highest byte, and their distinctness.
The data mnemonics are an OPEN table (R7): any sixteen distinct three-letter strings. -/
def Obligations.TheMnemonicWires : Prop :=
  mnemonicWires 2 "eq" = 0x6571#16 ∧ mnemonicWires 3 "add" = 0x616464#24 ∧
  (∀ a b : ConditionCode, mnemonicWires 2 a.toMnemonic = mnemonicWires 2 b.toMnemonic → a = b) ∧
  (∀ (cfg : Config) (a b : DataOpcode), cfg.wf = true → a.toMnemonic cfg = b.toMnemonic cfg → a = b) ∧
  (∀ (cfg : Config) (op : DataOpcode), cfg.wf = true → isThreeLetterMnemonic (op.toMnemonic cfg) = true)

/-! ### The machine -/

/-- R197: a step drives the next pair and is `exec` of the instruction it decodes to. -/
def Obligations.AStepRunsTheDecodedInstruction : Prop :=
  ∀ (s : State) (p : Presentation) (rest : List Presentation), s.pending = p :: rest →
    step s = exec (decode s.design p) { s with driven := some p, pending := rest }

/-- R192: with nothing to present there is no result; that `step` then refuses is the model's choice, log entry 6. -/
def Obligations.AStepWithNothingToPresentRefuses : Prop :=
  ∀ s : State, s.pending = [] → step s = .refused .noInput

/-- R171, R172, R176: the frame and the completion of all 55 rows: a row answers a next state, whatever the state, and
all it changes is one result at the end of the record. -/
def Obligations.EveryInstructionCompletesAndRecordsOneResult : Prop :=
  ∀ (i : Instr) (s : State), ∃ (t : State) (o : Observation), exec i s = .next t ∧
    t.design = s.design ∧ t.driven = s.driven ∧ t.pending = s.pending ∧ t.observed = s.observed ++ [o]

/-- R10, R194: a result depends on the instruction alone: not on what is driven, pending or recorded. -/
def Obligations.ResultsDoNotDependOnHistory : Prop :=
  ∀ (i : Instr) (s s' : State), s.design = s'.design →
    ∃ o : Observation, exec i s = .next { s with observed := s.observed ++ [o] } ∧
      exec i s' = .next { s' with observed := s'.observed ++ [o] }

/-- R16, R36: the machine of table rows records exactly what the chosen decoder function gives for the word
(R60, R96, R120, R130, R150, R160, R162). -/
def Obligations.AStepRecordsTheChosenDecodersResult : Prop :=
  ∀ (s : State) (p : Presentation) (rest : List Presentation), s.pending = p :: rest →
    step s = .next
      { design := s.design, driven := some p, pending := rest, observed := s.observed ++ [chosenResult s.design p] }

/-- R16: after a word is driven every output group is its own decoder's function of that word, whichever decoder the
caller chose and whether or not the `dp` group is an error. -/
def Obligations.AllDecodersEvaluateInParallel : Prop :=
  ∀ (s t : State) (decoder : WordDecoder) (iw : Word) (rest : List Presentation),
    s.pending = .word decoder iw :: rest → step s = .next t →
    t.outputs =
      { cond := some (ConditionCode.fromBits (iw.extractLsb' s.design.condLsb.val 4))
        condMnemonic := some (ConditionCode.fromBits (iw.extractLsb' s.design.condLsb.val 4)).toMnemonic
        so := some (ShifterOperand.decode (iw.getLsbD 25) (iw.extractLsb' 0 16))
        dp := some (DataInstruction.fromBits iw)
        dpMnemonic := some ((DataOpcode.fromBits (iw.extractLsb' 21 4)).toMnemonic s.design)
        mul := some (Multiply.fromBits iw)
        swp := some (Swap.fromBits iw)
        bx := some (Branch.fromBitsBx iw)
        b := some (Branch.fromBitsBranch iw) }

/-- R16, R195: the result recorded by a step stands on the output group of the chosen decoder. -/
def Obligations.TheRecordedResultStandsOnTheChosenGroup : Prop :=
  ∀ (s t : State), step s = .next t → ∃ o, t.observed.getLast? = some o ∧
    match t.driven, o with
    | some (.condIn _), .condition cc m | some (.word .condition _), .condition cc m =>
        t.outputs.cond = some cc ∧ t.outputs.condMnemonic = some m
    | some (.shifter _ _), .shifter r => t.outputs.so = some r
    | some (.word .dataInstruction _), .data r m => t.outputs.dp = some r ∧ t.outputs.dpMnemonic = some m
    | some (.word .multiply _), .multiply v => t.outputs.mul = some v
    | some (.word .swap _), .swap v => t.outputs.swp = some v
    | some (.word .branchExchange _), .branchExchange v => t.outputs.bx = some v
    | some (.word .branch _), .branch v => t.outputs.b = some v
    | _, _ => False

/-- R197: the observation of a sequence is the sequence of the observations of its elements, from any state, and the
block leaves nothing else behind. -/
def Obligations.TheObservationOfARunIsPointwise : Prop :=
  ∀ (s : State) (program rest : List Presentation), s.pending = program ++ rest →
    Sys2Proof.core.run program.length s = .next
      { design := s.design
        driven := program.getLast?.or s.driven
        pending := rest
        observed := s.observed ++ program.map (chosenResult s.design) }

/-- R197, R194: permuting a program permutes its results and changes none. -/
def Obligations.PermutedProgramsGivePermutedResults : Prop :=
  ∀ (s t u : State) (p q : List Presentation), p.Perm q →
    Sys2Proof.core.run p.length { s with pending := p, observed := [] } = .next t →
    Sys2Proof.core.run q.length { s with pending := q, observed := [] } = .next u →
    t.observed.Perm u.observed

/-- R19, R85, R101, R163: whatever state it starts from, a step records only results the block can give. -/
def Obligations.EveryStepKeepsTheInvariant : Prop :=
  ∀ s t : State, s.Inv → step s = .next t → t.Inv

/-- The state at reset meets the invariant. -/
def Obligations.TheResetStateMeetsTheInvariant : Prop :=
  State.reset.Inv

/-- R19, R23, R85, R87: the results the invariant allows are exactly those some input gives. -/
def Obligations.TheProducibleResultsAreExactlyTheBlocksResults : Prop :=
  ∀ (cfg : Config) (o : Observation), o.Producible cfg ↔ ∃ p : Presentation, chosenResult cfg p = o

/-- R190, R191, R192: at reset nothing is driven, so no output carries a value and no word is substituted.
The empty program and record, and the defaults of the OPEN parameters, are the model's (log entries 1, 2 and 4). -/
def Obligations.AtResetNoOutputCarriesAValue : Prop :=
  State.reset.outputs = ⟨none, none, none, none, none, none, none, none, none⟩ ∧
  State.reset.driven = none ∧ State.reset.pending = [] ∧ State.reset.observed = [] ∧
  State.reset.design = Config.standard

/-- R191, R171: `dp_err` is not stored: after any word is driven it is the function of that word that R191 gives. -/
def Obligations.TheErrorWireIsAFunctionOfTheWord : Prop :=
  ∀ (s t : State) (decoder : WordDecoder) (iw : Word) (rest : List Presentation),
    s.pending = .word decoder iw :: rest → step s = .next t →
    t.outputs.wires.dp.map DataWires.err = some (!iw.getLsbD 25 && iw.getLsbD 4 && iw.getLsbD 7)

/-- Log entries 4 and 5 (the model's choice): a bare table word put at the head of the program is the next
instruction run, and nothing else of the state changes. -/
def Obligations.ATableWordIsTheNextInstructionRun : Prop :=
  ∀ (s : State) (nbits w : Nat) (i : Instr), s.design = Config.standard → decodeTableWord nbits w = some i →
    ∃ p : Presentation, p.bits = w ∧ s.withFetchWord nbits w = { s with pending := p :: s.pending } ∧
      step (s.withFetchWord nbits w) = exec i { s with driven := some p }
end

