-- ==== Sys2Proof/Laws/BitField.lean ====
section
/-! SUPPORT. The BitField primitives in the terms of the library's bit vectors, so that no later proof unfolds them. -/

namespace Sys2Proof

theorem getBits_eq_extract {W : Nat} (w : BitVec W) (o l : Nat) (h : o + l ≤ W) :
    getBits w o l h = w.extractLsb' o l := by
  apply BitVec.eq_of_toNat_eq
  simp [getBits, BitVec.extractLsb', Nat.shiftRight_eq_div_pow]

theorem getBits_toNat {W : Nat} (w : BitVec W) (o l : Nat) (h : o + l ≤ W) :
    (getBits w o l h).toNat = w.toNat / 2 ^ o % 2 ^ l := by
  simp [getBits]

theorem getBits_getLsbD {W : Nat} (w : BitVec W) (o l i : Nat) (h : o + l ≤ W) :
    (getBits w o l h).getLsbD i = (decide (i < l) && w.getLsbD (o + i)) := by
  rw [getBits_eq_extract, BitVec.getLsbD_extractLsb']

theorem isFlagSet_eq_getLsbD {W : Nat} (w : BitVec W) (o : Nat) (h : o + 1 ≤ W) :
    isFlagSet w o h = w.getLsbD o := by
  have h0 : (getBits w o 1 h).getLsbD 0 = w.getLsbD o := by rw [getBits_getLsbD]; simp
  unfold isFlagSet
  rw [← h0]
  generalize getBits w o 1 h = x
  revert x
  decide

theorem getRegister_eq {W : Nat} (w : BitVec W) (o : Nat) (h : o + 4 ≤ W) :
    getRegister w o h = ⟨getBits w o 4 h⟩ := by
  simp [getRegister, Register.fromIndex]

@[simp] theorem getRegister_index {W : Nat} (w : BitVec W) (o : Nat) (h : o + 4 ≤ W) :
    (getRegister w o h).index = getBits w o 4 h := by
  simp [getRegister_eq]

/-- Two words agree under a mask exactly when they agree on the mask's bits. -/
theorem and_eq_and_iff {W : Nat} (a b mask : BitVec W) :
    a &&& mask = b &&& mask ↔ ∀ i, mask.getLsbD i = true → a.getLsbD i = b.getLsbD i := by
  constructor
  · intro h i hi
    have := congrArg (·.getLsbD i) h
    simpa [hi] using this
  · intro h
    apply BitVec.eq_of_getLsbD_eq
    intro i _
    rw [BitVec.getLsbD_and, BitVec.getLsbD_and]
    cases hm : mask.getLsbD i
    · simp
    · simp [h i hm]

/-- Two slices are equal exactly when their bits are. -/
theorem extract_eq_extract_iff {W : Nat} (a b : BitVec W) (o l : Nat) :
    a.extractLsb' o l = b.extractLsb' o l ↔ ∀ i, i < l → a.getLsbD (o + i) = b.getLsbD (o + i) := by
  constructor
  · intro h i hi
    have := congrArg (·.getLsbD i) h
    simpa [hi] using this
  · intro h
    apply BitVec.eq_of_getLsbD_eq
    intro i hi
    simp [hi, h i hi]

/-- A 4-bit code is one of sixteen: the case split of every table lookup. -/
theorem code4_cases (c : BitVec 4) : c = 0 ∨ c = 1 ∨ c = 2 ∨ c = 3 ∨ c = 4 ∨ c = 5 ∨ c = 6 ∨ c = 7 ∨ c = 8 ∨ c = 9 ∨
    c = 10 ∨ c = 11 ∨ c = 12 ∨ c = 13 ∨ c = 14 ∨ c = 15 := by
  revert c; decide

/-- A 3-bit code is one of eight. -/
theorem code3_cases (c : BitVec 3) : c = 0 ∨ c = 1 ∨ c = 2 ∨ c = 3 ∨ c = 4 ∨ c = 5 ∨ c = 6 ∨ c = 7 := by
  revert c; decide

/-- A 2-bit code is one of four. -/
theorem code2_cases (c : BitVec 2) : c = 0 ∨ c = 1 ∨ c = 2 ∨ c = 3 := by
  revert c; decide

end Sys2Proof
end

