-- ==== Sys2Proof/Laws/State.lean ====
section
/-! SUPPORT. One lemma for each field of each update of the state, and for the state at reset. -/

namespace Sys2Proof.Machine

@[simp] theorem State.drive_design (s : State) (p : Presentation) (rest : List Presentation) :
    (s.drive p rest).design = s.design := rfl
@[simp] theorem State.drive_driven (s : State) (p : Presentation) (rest : List Presentation) :
    (s.drive p rest).driven = some p := rfl
@[simp] theorem State.drive_pending (s : State) (p : Presentation) (rest : List Presentation) :
    (s.drive p rest).pending = rest := rfl
@[simp] theorem State.drive_observed (s : State) (p : Presentation) (rest : List Presentation) :
    (s.drive p rest).observed = s.observed := rfl

@[simp] theorem State.collect_design (s : State) (o : Observation) : (s.collect o).design = s.design := rfl
@[simp] theorem State.collect_driven (s : State) (o : Observation) : (s.collect o).driven = s.driven := rfl
@[simp] theorem State.collect_pending (s : State) (o : Observation) : (s.collect o).pending = s.pending := rfl
@[simp] theorem State.collect_observed (s : State) (o : Observation) :
    (s.collect o).observed = s.observed ++ [o] := rfl

@[simp] theorem State.reset_design : State.reset.design = Config.standard := rfl
@[simp] theorem State.reset_driven : State.reset.driven = none := rfl
@[simp] theorem State.reset_pending : State.reset.pending = [] := rfl
@[simp] theorem State.reset_observed : State.reset.observed = [] := rfl

end Sys2Proof.Machine
end

