-- ==== Sys2Proof/Laws/Ops.lean ====
section
/-! SUPPORT. For each shared operation of the meanings, all it can do: one result is collected and nothing else happens. -/

namespace Sys2Proof.Machine

/-- All that collecting a result does. -/
theorem answer_next_iff {o : Observation} {s t : State} : answer o s = .next t ↔ t = s.collect o :=
  ⟨fun h => by cases h; rfl, fun h => by rw [h]; rfl⟩

theorem conditionRow_eq (cc : ConditionCode) (s : State) :
    conditionRow cc s = .next (s.collect (.condition cc cc.toMnemonic)) := rfl

theorem literalShiftRow_eq (op : ShiftOperation) (amount : BitVec 4) (source : Register) (s : State) :
    literalShiftRow op amount source s
      = .next (s.collect (.shifter (.ok (.shift op source (.value (literalAmount amount)))))) := rfl

theorem registerShiftRow_eq (op : ShiftOperation) (amountRegister source : Register) (s : State) :
    registerShiftRow op amountRegister source s
      = .next (s.collect (.shifter (.ok (.shift op source (.register amountRegister))))) := rfl

theorem dataRow_eq (op : DataOpcode) (d : DataFields) (s : State) :
    dataRow op d s = .next (s.collect (.data (dataResult op d) (op.toMnemonic s.design))) := rfl

theorem multiplyRow_eq (long signed accumulate : Bool) (m : MulFields) (s : State) :
    multiplyRow long signed accumulate m s
      = .next (s.collect (.multiply ⟨long, signed, accumulate, m.setConditionCodes, m.operand1, m.operand2,
          m.operand3, m.destination⟩)) := rfl

theorem swapRow_eq (size : SwapSize) (w : SwapFields) (s : State) :
    swapRow size w s = .next (s.collect (.swap ⟨w.source, w.destination, w.base, size⟩)) := rfl

theorem branchRow_eq (link : Bool) (raw : BitVec 24) (s : State) :
    branchRow link raw s = .next (s.collect (.branch (.branch (branchOffset raw) link))) := rfl

/-- What a data row records for each kind of second operand. -/
theorem dataResult_ok_iff {op : DataOpcode} {d : DataFields} {r : DataInstruction} :
    dataResult op d = .ok r ↔ ∃ operand2, ShifterOperand.decode d.isImmediate d.shifterField = .ok operand2 ∧
      r = ⟨d.operand1, operand2, d.destination, op, d.setConditionCodes⟩ := by
  unfold dataResult
  split <;> rename_i h <;> simp [h, eq_comm]

theorem dataResult_err_iff {op : DataOpcode} {d : DataFields} {e : DecodeError} :
    dataResult op d = .err e ↔ ShifterOperand.decode d.isImmediate d.shifterField = .err e := by
  unfold dataResult
  split <;> rename_i h <;> simp [h]

end Sys2Proof.Machine
end

