-- ==== Sys2Proof/Laws/PerInstr.lean ====
section
/-! SUPPORT. The family RowPattern: the input that spells a well-formed instruction drives the port of its row of
spec/opcode_table.json and shows the row's match under the row's mask (R49). -/

namespace Sys2Proof.Laws.RowPattern

/-- R49: "mask" and "match" of the instruction's own row. -/
def Statement (i : Instr) : Prop :=
  i.wellFormed = true → (encode i).port = i.row.port ∧ (encode i).bits &&& i.row.mask = i.row.pattern

/-- The masked bits of a word, from its bit vector. -/
theorem toNat_and_eq {n : Nat} (x mask pattern : BitVec n) (h : x &&& mask = pattern) :
    x.toNat &&& mask.toNat = pattern.toNat := by
  rw [← BitVec.toNat_and, h]

theorem data_bits (code : BitVec 4) (d : DataFields) :
    (encodeData code d).bits &&& 0x01E00000 = (place 32 code 21).toNat := by
  refine toNat_and_eq (n := 32) _ 0x01E00000#32 _ ?_
  ext i hi
  interval_cases i <;> simp [place]

/-- A shifter field with the immediate-select flag clear shows no bit 16. -/
theorem shifter_false_bits (f : Field) (mask pattern : BitVec 16) (h : f &&& mask = pattern) :
    (Presentation.shifter false f).bits &&& (65536 + mask.toNat) = pattern.toNat := by
  have h17 : (f.setWidth 17) &&& (65536#17 + mask.setWidth 17) = pattern.setWidth 17 := by
    subst h
    have hm : (65536#17 + mask.setWidth 17) = 65536#17 ||| mask.setWidth 17 := by
      rw [BitVec.add_eq_or_of_and_eq_zero]
      ext i hi
      interval_cases i <;> simp
    rw [hm]
    ext i hi
    interval_cases i <;> simp
  have hb := toNat_and_eq _ _ _ h17
  have hf : f.toNat < 65536 := f.isLt
  have hk : mask.toNat < 65536 := mask.isLt
  have hp : pattern.toNat < 65536 := pattern.isLt
  simp only [BitVec.toNat_setWidth, BitVec.toNat_add, BitVec.toNat_ofNat] at hb
  simp only [Presentation.bits, Bool.toNat_false, Nat.zero_mul, Nat.zero_add]
  rw [Nat.mod_eq_of_lt (by omega : f.toNat < 2 ^ 17), Nat.mod_eq_of_lt (by omega : mask.toNat < 2 ^ 17),
    Nat.mod_eq_of_lt (by omega : pattern.toNat < 2 ^ 17), Nat.mod_eq_of_lt (by omega : 65536 < 2 ^ 17),
    Nat.mod_eq_of_lt (by omega : 65536 + mask.toNat < 2 ^ 17)] at hb
  exact hb

theorem literal_bits (code : BitVec 2) (amount : BitVec 4) (source : Register) :
    (encodeLiteralShift code amount source).bits &&& 0x10070 = (place 16 code 5).toNat := by
  refine shifter_false_bits _ 0x0070#16 _ ?_
  ext i hi
  interval_cases i <;> simp [place]

theorem register_bits (code : BitVec 2) (amountRegister source : Register) :
    (encodeRegisterShift code amountRegister source).bits &&& 0x100F0 = (place 16 code 5 ||| place 16 1#1 4).toNat := by
  refine shifter_false_bits _ 0x00F0#16 _ ?_
  ext i hi
  interval_cases i <;> simp [place]

theorem invalid_bits (payload : Field) (h : invalidPayload payload = true) :
    (Presentation.shifter false payload).bits &&& 0x10090 = 0x90 :=
  shifter_false_bits payload 0x0090#16 0x0090#16 (by simpa [invalidPayload] using h)

theorem immediate_bits (value : BitVec 8) (rotate : BitVec 4) :
    (encodeImmediate value rotate).bits &&& 0x10000 = 0x10000 := by
  have hf : (place 16 rotate 8 ||| place 16 value 0).toNat < 2 ^ 16 := BitVec.isLt _
  have hbits : (encodeImmediate value rotate).bits = 2 ^ 16 + (place 16 rotate 8 ||| place 16 value 0).toNat := by
    simp [encodeImmediate, Presentation.bits]
  rw [hbits, show 0x10000 = 2 ^ 16 from rfl, Nat.and_two_pow, Nat.testBit_two_pow_add_eq,
    Nat.testBit_lt_two_pow hf]
  rfl

theorem multiply_bits (flags : BitVec 3) (m : MulFields) :
    (encodeMultiply flags m).bits &&& 0x00E00000 = (place 32 flags 21).toNat := by
  refine toNat_and_eq (n := 32) _ 0x00E00000#32 _ ?_
  ext i hi
  interval_cases i <;> simp [place]

theorem swap_bits (size : BitVec 1) (w : SwapFields) :
    (encodeSwap size w).bits &&& 0x00400000 = (place 32 size 22).toNat := by
  refine toNat_and_eq (n := 32) _ 0x00400000#32 _ ?_
  ext i hi
  interval_cases i <;> simp [place]

theorem branch_bits (link : BitVec 1) (offset : BitVec 24) :
    (encodeBranch link offset).bits &&& 0x01000000 = (place 32 link 24).toNat := by
  refine toNat_and_eq (n := 32) _ 0x01000000#32 _ ?_
  ext i hi
  interval_cases i <;> simp [place]

theorem condEq : Statement .condEq := fun _ => ⟨rfl, rfl⟩
theorem condNe : Statement .condNe := fun _ => ⟨rfl, rfl⟩
theorem condCs : Statement .condCs := fun _ => ⟨rfl, rfl⟩
theorem condCc : Statement .condCc := fun _ => ⟨rfl, rfl⟩
theorem condMi : Statement .condMi := fun _ => ⟨rfl, rfl⟩
theorem condPl : Statement .condPl := fun _ => ⟨rfl, rfl⟩
theorem condVs : Statement .condVs := fun _ => ⟨rfl, rfl⟩
theorem condVc : Statement .condVc := fun _ => ⟨rfl, rfl⟩
theorem condHi : Statement .condHi := fun _ => ⟨rfl, rfl⟩
theorem condLs : Statement .condLs := fun _ => ⟨rfl, rfl⟩
theorem condGe : Statement .condGe := fun _ => ⟨rfl, rfl⟩
theorem condLt : Statement .condLt := fun _ => ⟨rfl, rfl⟩
theorem condGt : Statement .condGt := fun _ => ⟨rfl, rfl⟩
theorem condLe : Statement .condLe := fun _ => ⟨rfl, rfl⟩
theorem condAl : Statement .condAl := fun _ => ⟨rfl, rfl⟩
theorem condNv : Statement .condNv := fun _ => ⟨rfl, rfl⟩
theorem dpAnd (d : DataFields) : Statement (.dpAnd d) := fun _ => ⟨rfl, data_bits _ d⟩
theorem dpEor (d : DataFields) : Statement (.dpEor d) := fun _ => ⟨rfl, data_bits _ d⟩
theorem dpSub (d : DataFields) : Statement (.dpSub d) := fun _ => ⟨rfl, data_bits _ d⟩
theorem dpRsb (d : DataFields) : Statement (.dpRsb d) := fun _ => ⟨rfl, data_bits _ d⟩
theorem dpAdd (d : DataFields) : Statement (.dpAdd d) := fun _ => ⟨rfl, data_bits _ d⟩
theorem dpAdc (d : DataFields) : Statement (.dpAdc d) := fun _ => ⟨rfl, data_bits _ d⟩
theorem dpSbc (d : DataFields) : Statement (.dpSbc d) := fun _ => ⟨rfl, data_bits _ d⟩
theorem dpRsc (d : DataFields) : Statement (.dpRsc d) := fun _ => ⟨rfl, data_bits _ d⟩
theorem dpTst (d : DataFields) : Statement (.dpTst d) := fun _ => ⟨rfl, data_bits _ d⟩
theorem dpTeq (d : DataFields) : Statement (.dpTeq d) := fun _ => ⟨rfl, data_bits _ d⟩
theorem dpCmp (d : DataFields) : Statement (.dpCmp d) := fun _ => ⟨rfl, data_bits _ d⟩
theorem dpCmn (d : DataFields) : Statement (.dpCmn d) := fun _ => ⟨rfl, data_bits _ d⟩
theorem dpOrr (d : DataFields) : Statement (.dpOrr d) := fun _ => ⟨rfl, data_bits _ d⟩
theorem dpMov (d : DataFields) : Statement (.dpMov d) := fun _ => ⟨rfl, data_bits _ d⟩
theorem dpBic (d : DataFields) : Statement (.dpBic d) := fun _ => ⟨rfl, data_bits _ d⟩
theorem dpMvn (d : DataFields) : Statement (.dpMvn d) := fun _ => ⟨rfl, data_bits _ d⟩
theorem shImm (value : BitVec 8) (rotate : BitVec 4) : Statement (.shImm value rotate) := fun _ => ⟨rfl, immediate_bits value rotate⟩
theorem shLslLiteral (amount : BitVec 4) (source : Register) : Statement (.shLslLiteral amount source) := fun _ => ⟨rfl, literal_bits _ amount source⟩
theorem shLsrLiteral (amount : BitVec 4) (source : Register) : Statement (.shLsrLiteral amount source) := fun _ => ⟨rfl, literal_bits _ amount source⟩
theorem shAsrLiteral (amount : BitVec 4) (source : Register) : Statement (.shAsrLiteral amount source) := fun _ => ⟨rfl, literal_bits _ amount source⟩
theorem shRorLiteral (amount : BitVec 4) (source : Register) : Statement (.shRorLiteral amount source) := fun _ => ⟨rfl, literal_bits _ amount source⟩
theorem shLslRegister (amountRegister : Register) (source : Register) : Statement (.shLslRegister amountRegister source) := fun _ => ⟨rfl, register_bits _ amountRegister source⟩
theorem shLsrRegister (amountRegister : Register) (source : Register) : Statement (.shLsrRegister amountRegister source) := fun _ => ⟨rfl, register_bits _ amountRegister source⟩
theorem shAsrRegister (amountRegister : Register) (source : Register) : Statement (.shAsrRegister amountRegister source) := fun _ => ⟨rfl, register_bits _ amountRegister source⟩
theorem shRorRegister (amountRegister : Register) (source : Register) : Statement (.shRorRegister amountRegister source) := fun _ => ⟨rfl, register_bits _ amountRegister source⟩
theorem shInvalid (payload : Field) : Statement (.shInvalid payload) := fun h => ⟨rfl, invalid_bits payload h⟩
theorem mulMul (m : MulFields) : Statement (.mulMul m) := fun _ => ⟨rfl, multiply_bits _ m⟩
theorem mulMla (m : MulFields) : Statement (.mulMla m) := fun _ => ⟨rfl, multiply_bits _ m⟩
theorem mulMulSigned (m : MulFields) : Statement (.mulMulSigned m) := fun _ => ⟨rfl, multiply_bits _ m⟩
theorem mulMlaSigned (m : MulFields) : Statement (.mulMlaSigned m) := fun _ => ⟨rfl, multiply_bits _ m⟩
theorem mulUmull (m : MulFields) : Statement (.mulUmull m) := fun _ => ⟨rfl, multiply_bits _ m⟩
theorem mulUmlal (m : MulFields) : Statement (.mulUmlal m) := fun _ => ⟨rfl, multiply_bits _ m⟩
theorem mulSmull (m : MulFields) : Statement (.mulSmull m) := fun _ => ⟨rfl, multiply_bits _ m⟩
theorem mulSmlal (m : MulFields) : Statement (.mulSmlal m) := fun _ => ⟨rfl, multiply_bits _ m⟩
theorem swpWord (w : SwapFields) : Statement (.swpWord w) := fun _ => ⟨rfl, swap_bits _ w⟩
theorem swpByte (w : SwapFields) : Statement (.swpByte w) := fun _ => ⟨rfl, swap_bits _ w⟩
theorem bx (register : Register) : Statement (.bx register) := fun _ => ⟨rfl, Nat.and_zero _⟩
theorem b (offset : BitVec 24) : Statement (.b offset) := fun _ => ⟨rfl, branch_bits _ offset⟩
theorem bl (offset : BitVec 24) : Statement (.bl offset) := fun _ => ⟨rfl, branch_bits _ offset⟩

end Sys2Proof.Laws.RowPattern
end

