-- ==== Sys2Proof/Laws/Rows.lean ====
section
/-! SUPPORT. What `exec` does with the row a code selects, by the code: the bridge from the opcode table's rows to the
decoder functions. -/

namespace Sys2Proof.Machine

theorem exec_decodeCondition (c : BitVec 4) (s : State) :
    exec (decodeCondition c) s = conditionRow (ConditionCode.fromBits c) s := by
  rcases code4_cases c with rfl | rfl | rfl | rfl | rfl | rfl | rfl | rfl | rfl | rfl | rfl | rfl | rfl | rfl | rfl | rfl
    <;> rfl

theorem exec_rowOfDataCode (c : BitVec 4) (d : DataFields) (s : State) :
    exec (rowOfDataCode c d) s = dataRow (DataOpcode.fromBits c) d s := by
  rcases code4_cases c with rfl | rfl | rfl | rfl | rfl | rfl | rfl | rfl | rfl | rfl | rfl | rfl | rfl | rfl | rfl | rfl
    <;> rfl

theorem exec_rowOfLiteralShift (c : BitVec 2) (amount : BitVec 4) (source : Register) (s : State) :
    exec (rowOfLiteralShift c amount source) s = literalShiftRow (ShiftOperation.fromCode c) amount source s := by
  rcases code2_cases c with rfl | rfl | rfl | rfl <;> rfl

theorem exec_rowOfRegisterShift (c : BitVec 2) (amountRegister source : Register) (s : State) :
    exec (rowOfRegisterShift c amountRegister source) s
      = registerShiftRow (ShiftOperation.fromCode c) amountRegister source s := by
  rcases code2_cases c with rfl | rfl | rfl | rfl <;> rfl

/-- The three flags of a multiply row are the bits of the code that selects it (R39, R49). -/
theorem exec_rowOfMultiplyFlags (c : BitVec 3) (m : MulFields) (s : State) :
    exec (rowOfMultiplyFlags c m) s = multiplyRow (c.getLsbD 2) (c.getLsbD 1) (c.getLsbD 0) m s := by
  rcases code3_cases c with rfl | rfl | rfl | rfl | rfl | rfl | rfl | rfl <;> rfl

/-- The opcode-table form and the pseudocode form of a data result agree (R49, R120). -/
theorem dataResult_dataFieldsOf (iw : Word) :
    dataResult (DataOpcode.fromBits (getBits iw 21 4)) (dataFieldsOf iw) = DataInstruction.fromBits iw := by
  unfold dataResult DataInstruction.fromBits dataFieldsOf ShifterOperand.decode
  by_cases h : isFlagSet iw 25 <;> simp [h]

end Sys2Proof.Machine
end

