-- ==== Sys2Proof/Tests/Slice0.lean ====
section
/-! SUPPORT. Tests: expected results are the spec's own examples and vectors (the rule or section stands at each), words
are written out bit by bit from the field maps R37 to R43; then a witness for each statement with hypotheses. -/

namespace Sys2Proof.Tests

open Sys2Proof Sys2Proof.Machine

/-- The result a caller collects for one pair, by one step. -/
def collected (p : Presentation) : Option Observation :=
  match step { State.reset with pending := [p] } with
  | .next t => t.observed.getLast?
  | _ => none

/-- The output groups while a word is driven. -/
def outputsOf (iw : Word) : Outputs :=
  State.outputs { State.reset with driven := some (.word .condition iw) }

/-! ### Well-formedness refuses ill-formed terms -/

theorem test_wellFormed_refuses_a_destination_outside_the_field :
    (Instr.dpAdd ⟨false, false, ⟨0⟩, ⟨1⟩, 0x2100#16⟩).wellFormed = false := by decide
theorem test_wellFormed_accepts_the_destination_of_the_field :
    (Instr.dpAdd ⟨false, false, ⟨0⟩, ⟨1⟩, 0x1100#16⟩).wellFormed = true := by decide
theorem test_wellFormed_refuses_a_valid_field_as_invalid_payload : (Instr.shInvalid 0x0010#16).wellFormed = false := by decide
theorem test_wellFormed_accepts_the_sources_invalid_field : (Instr.shInvalid 0x0B95#16).wellFormed = true := by decide

/-! ### Decoding, one word for each row -/

theorem test_decode_condEq : decode Config.standard (.condIn 0b0000#4) = .condEq := by decide
theorem test_decode_condNe : decode Config.standard (.condIn 0b0001#4) = .condNe := by decide
theorem test_decode_condCs : decode Config.standard (.condIn 0b0010#4) = .condCs := by decide
theorem test_decode_condCc : decode Config.standard (.condIn 0b0011#4) = .condCc := by decide
theorem test_decode_condMi : decode Config.standard (.condIn 0b0100#4) = .condMi := by decide
theorem test_decode_condPl : decode Config.standard (.condIn 0b0101#4) = .condPl := by decide
theorem test_decode_condVs : decode Config.standard (.condIn 0b0110#4) = .condVs := by decide
theorem test_decode_condVc : decode Config.standard (.condIn 0b0111#4) = .condVc := by decide
theorem test_decode_condHi : decode Config.standard (.condIn 0b1000#4) = .condHi := by decide
theorem test_decode_condLs : decode Config.standard (.condIn 0b1001#4) = .condLs := by decide
theorem test_decode_condGe : decode Config.standard (.condIn 0b1010#4) = .condGe := by decide
theorem test_decode_condLt : decode Config.standard (.condIn 0b1011#4) = .condLt := by decide
theorem test_decode_condGt : decode Config.standard (.condIn 0b1100#4) = .condGt := by decide
theorem test_decode_condLe : decode Config.standard (.condIn 0b1101#4) = .condLe := by decide
theorem test_decode_condAl : decode Config.standard (.condIn 0b1110#4) = .condAl := by decide
theorem test_decode_condNv : decode Config.standard (.condIn 0b1111#4) = .condNv := by decide

theorem test_decode_dpAnd : decode Config.standard (.word .dataInstruction 0b1110_00_0_0000_0_0001_0010_000000000011#32)
    = .dpAnd ⟨false, false, ⟨1⟩, ⟨2⟩, 0b0010_000000000011#16⟩ := by decide
theorem test_decode_dpEor : decode Config.standard (.word .dataInstruction 0b1110_00_1_0001_0_0001_0001_000000000001#32)
    = .dpEor ⟨true, false, ⟨1⟩, ⟨1⟩, 0b0001_000000000001#16⟩ := by decide
theorem test_decode_dpSub : decode Config.standard (.word .dataInstruction 0b1110_00_1_0010_1_0001_0010_000000000001#32)
    = .dpSub ⟨true, true, ⟨1⟩, ⟨2⟩, 0b0010_000000000001#16⟩ := by decide
theorem test_decode_dpRsb : decode Config.standard (.word .dataInstruction 0b1110_00_1_0011_0_0001_0000_000000000000#32)
    = .dpRsb ⟨true, false, ⟨1⟩, ⟨0⟩, 0b0000_000000000000#16⟩ := by decide
theorem test_decode_dpAdd : decode Config.standard (.word .dataInstruction 0b1110_00_0_0100_0_0000_0001_000100000000#32)
    = .dpAdd ⟨false, false, ⟨0⟩, ⟨1⟩, 0b0001_000100000000#16⟩ := by decide
theorem test_decode_dpAdc : decode Config.standard (.word .dataInstruction 0b1110_00_0_0101_0_0001_0000_000000000010#32)
    = .dpAdc ⟨false, false, ⟨1⟩, ⟨0⟩, 0b0000_000000000010#16⟩ := by decide
theorem test_decode_dpSbc : decode Config.standard (.word .dataInstruction 0b1110_00_0_0110_1_0001_0000_000000000010#32)
    = .dpSbc ⟨false, true, ⟨1⟩, ⟨0⟩, 0b0000_000000000010#16⟩ := by decide
theorem test_decode_dpRsc : decode Config.standard (.word .dataInstruction 0b1110_00_0_0111_0_0001_0000_000000000010#32)
    = .dpRsc ⟨false, false, ⟨1⟩, ⟨0⟩, 0b0000_000000000010#16⟩ := by decide
theorem test_decode_dpTst : decode Config.standard (.word .dataInstruction 0b1110_00_1_1000_1_0001_0000_000000000001#32)
    = .dpTst ⟨true, true, ⟨1⟩, ⟨0⟩, 0b0000_000000000001#16⟩ := by decide
theorem test_decode_dpTeq : decode Config.standard (.word .dataInstruction 0b1110_00_0_1001_1_0001_0000_000000000010#32)
    = .dpTeq ⟨false, true, ⟨1⟩, ⟨0⟩, 0b0000_000000000010#16⟩ := by decide
theorem test_decode_dpCmp : decode Config.standard (.word .dataInstruction 0b1110_00_1_1010_1_0001_0000_000000000000#32)
    = .dpCmp ⟨true, true, ⟨1⟩, ⟨0⟩, 0b0000_000000000000#16⟩ := by decide
theorem test_decode_dpCmn : decode Config.standard (.word .dataInstruction 0b1110_00_1_1011_1_0001_0000_000000000001#32)
    = .dpCmn ⟨true, true, ⟨1⟩, ⟨0⟩, 0b0000_000000000001#16⟩ := by decide
theorem test_decode_dpOrr : decode Config.standard (.word .dataInstruction 0b1110_00_1_1100_0_0000_0000_110011111111#32)
    = .dpOrr ⟨true, false, ⟨0⟩, ⟨0⟩, 0b0000_110011111111#16⟩ := by decide
theorem test_decode_dpMov : decode Config.standard (.word .dataInstruction 0b1110_00_1_1101_0_0000_0000_000000001010#32)
    = .dpMov ⟨true, false, ⟨0⟩, ⟨0⟩, 0b0000_000000001010#16⟩ := by decide
theorem test_decode_dpBic : decode Config.standard (.word .dataInstruction 0b1110_00_1_1110_0_0001_0001_000000001111#32)
    = .dpBic ⟨true, false, ⟨1⟩, ⟨1⟩, 0b0001_000000001111#16⟩ := by decide
theorem test_decode_dpMvn : decode Config.standard (.word .dataInstruction 0b1110_00_0_1111_0_0000_0000_000000000001#32)
    = .dpMvn ⟨false, false, ⟨0⟩, ⟨0⟩, 0b0000_000000000001#16⟩ := by decide

theorem test_decode_shImm : decode Config.standard (.shifter true 0b1111_1010_11001100#16) = .shImm 0b11001100 0b1010 := by decide
theorem test_decode_shLslLiteral : decode Config.standard (.shifter false 0b0000_1_1001_00_0_0101#16)
    = .shLslLiteral 9 ⟨5⟩ := by decide
theorem test_decode_shLsrLiteral : decode Config.standard (.shifter false 0b0000_1_1001_01_0_0101#16)
    = .shLsrLiteral 9 ⟨5⟩ := by decide
theorem test_decode_shAsrLiteral : decode Config.standard (.shifter false 0b0000_1_1001_10_0_0101#16)
    = .shAsrLiteral 9 ⟨5⟩ := by decide
theorem test_decode_shRorLiteral : decode Config.standard (.shifter false 0b0000_1_1001_11_0_0101#16)
    = .shRorLiteral 9 ⟨5⟩ := by decide
theorem test_decode_shLslRegister : decode Config.standard (.shifter false 0b0000_1100_0_00_1_0101#16)
    = .shLslRegister ⟨12⟩ ⟨5⟩ := by decide
theorem test_decode_shLsrRegister : decode Config.standard (.shifter false 0b0000_1100_0_01_1_0101#16)
    = .shLsrRegister ⟨12⟩ ⟨5⟩ := by decide
theorem test_decode_shAsrRegister : decode Config.standard (.shifter false 0b0000_1100_0_10_1_0101#16)
    = .shAsrRegister ⟨12⟩ ⟨5⟩ := by decide
theorem test_decode_shRorRegister : decode Config.standard (.shifter false 0b0000_1100_0_11_1_0101#16)
    = .shRorRegister ⟨12⟩ ⟨5⟩ := by decide
theorem test_decode_shInvalid : decode Config.standard (.shifter false 0b0000_1011_1_00_1_0101#16)
    = .shInvalid 0x0B95 := by decide

theorem test_decode_mulMul : decode Config.standard (.word .multiply 0b11100000_000_0_0011_0000_0010_1001_0001#32)
    = .mulMul ⟨false, ⟨3⟩, ⟨0⟩, ⟨2⟩, ⟨1⟩⟩ := by decide
theorem test_decode_mulMla : decode Config.standard (.word .multiply 0b11100000_001_0_0100_0011_0010_1001_0001#32)
    = .mulMla ⟨false, ⟨4⟩, ⟨3⟩, ⟨2⟩, ⟨1⟩⟩ := by decide
theorem test_decode_mulMulSigned : decode Config.standard (.word .multiply 0b11100000_010_0_0101_0100_0111_1001_0110#32)
    = .mulMulSigned ⟨false, ⟨5⟩, ⟨4⟩, ⟨7⟩, ⟨6⟩⟩ := by decide
theorem test_decode_mulMlaSigned : decode Config.standard (.word .multiply 0b11100000_011_0_0101_0100_0111_1001_0110#32)
    = .mulMlaSigned ⟨false, ⟨5⟩, ⟨4⟩, ⟨7⟩, ⟨6⟩⟩ := by decide
theorem test_decode_mulUmull : decode Config.standard (.word .multiply 0b11100000_100_0_0101_0100_0111_1001_0110#32)
    = .mulUmull ⟨false, ⟨5⟩, ⟨4⟩, ⟨7⟩, ⟨6⟩⟩ := by decide
theorem test_decode_mulUmlal : decode Config.standard (.word .multiply 0b11100000_101_0_0101_0100_0111_1001_0110#32)
    = .mulUmlal ⟨false, ⟨5⟩, ⟨4⟩, ⟨7⟩, ⟨6⟩⟩ := by decide
theorem test_decode_mulSmull : decode Config.standard (.word .multiply 0b11100000_110_0_0101_0100_0111_1001_0110#32)
    = .mulSmull ⟨false, ⟨5⟩, ⟨4⟩, ⟨7⟩, ⟨6⟩⟩ := by decide
theorem test_decode_mulSmlal : decode Config.standard (.word .multiply 0b11100000_111_1_0101_0100_0111_1001_0110#32)
    = .mulSmlal ⟨true, ⟨5⟩, ⟨4⟩, ⟨7⟩, ⟨6⟩⟩ := by decide

theorem test_decode_swpWord : decode Config.standard (.word .swap 0b111000010_0_00_0010_0000_00001001_0001#32)
    = .swpWord ⟨⟨2⟩, ⟨0⟩, ⟨1⟩⟩ := by decide
theorem test_decode_swpByte : decode Config.standard (.word .swap 0b111000010_1_00_0010_0000_00001001_0001#32)
    = .swpByte ⟨⟨2⟩, ⟨0⟩, ⟨1⟩⟩ := by decide
theorem test_decode_bx : decode Config.standard (.word .branchExchange 0b1110000100101111111111110001_1110#32)
    = .bx ⟨14⟩ := by decide
theorem test_decode_b : decode Config.standard (.word .branch 0b0001101_0_111111111111111111111101#32)
    = .b 0xFFFFFD := by decide
theorem test_decode_bl : decode Config.standard (.word .branch 0b1110101_1_000000000000000000010000#32)
    = .bl 0x000010 := by decide

/-! ### Results, from the spec's examples -/

/-- 95_test_vectors.md section 1.1, the source's table, for all sixteen codes. -/
theorem test_result_conditions : (List.range 16).map (fun c => collected (.condIn (BitVec.ofNat 4 c)))
    = [some (.condition .equal "eq"), some (.condition .notEqual "ne"), some (.condition .carrySet "cs"),
      some (.condition .carryClear "cc"), some (.condition .minus "mi"), some (.condition .plus "pl"),
      some (.condition .overflowSet "vs"), some (.condition .overflowClear "vc"), some (.condition .unsignedHigher "hi"),
      some (.condition .unsignedLowerOrSame "ls"), some (.condition .signedGreaterThanOrEqual "ge"),
      some (.condition .signedLessThan "lt"), some (.condition .signedGreaterThan "gt"),
      some (.condition .signedLessThanOrEqual "le"), some (.condition .always "al"), some (.condition .never "nv")] := by
  decide
/-- 95_test_vectors.md section 2.2: only bits 31:28 matter with the default tie. -/
theorem test_result_tied_condition : collected (.word .condition 0x0FFFFFFF#32) = some (.condition .equal "eq") ∧
    collected (.word .condition 0xB0000000#32) = some (.condition .signedLessThan "lt") := by decide

/-- R102. -/
theorem test_result_dpAnd : collected (.word .dataInstruction 0xE0012003#32)
    = some (.data (.ok ⟨⟨1⟩, .shift .logicalLeft ⟨3⟩ (.value 0), ⟨2⟩, .and, false⟩) "and") := by decide
/-- R103. -/
theorem test_result_dpEor : collected (.word .dataInstruction 0xE2211001#32)
    = some (.data (.ok ⟨⟨1⟩, .immediate 1 0, ⟨1⟩, .exclusiveOr, false⟩) "eor") := by decide
/-- R104. -/
theorem test_result_dpSub : collected (.word .dataInstruction 0xE2512001#32)
    = some (.data (.ok ⟨⟨1⟩, .immediate 1 0, ⟨2⟩, .subtract, true⟩) "sub") := by decide
/-- R105. -/
theorem test_result_dpRsb : collected (.word .dataInstruction 0xE2610000#32)
    = some (.data (.ok ⟨⟨1⟩, .immediate 0 0, ⟨0⟩, .reverseSubtract, false⟩) "rsb") := by decide
/-- R106. -/
theorem test_result_dpAdd : collected (.word .dataInstruction 0xE0801100#32)
    = some (.data (.ok ⟨⟨0⟩, .shift .logicalLeft ⟨0⟩ (.value 2), ⟨1⟩, .add, false⟩) "add") := by decide
/-- R107. -/
theorem test_result_dpAdc : collected (.word .dataInstruction 0xE0A10002#32)
    = some (.data (.ok ⟨⟨1⟩, .shift .logicalLeft ⟨2⟩ (.value 0), ⟨0⟩, .addWithCarry, false⟩) "adc") := by decide
/-- R108. -/
theorem test_result_dpSbc : collected (.word .dataInstruction 0xE0D10002#32)
    = some (.data (.ok ⟨⟨1⟩, .shift .logicalLeft ⟨2⟩ (.value 0), ⟨0⟩, .subtractWithCarry, true⟩) "sbc") := by decide
/-- R109. -/
theorem test_result_dpRsc : collected (.word .dataInstruction 0xE0E10002#32)
    = some (.data (.ok ⟨⟨1⟩, .shift .logicalLeft ⟨2⟩ (.value 0), ⟨0⟩, .reverseSubtractWithCarry, false⟩) "rsc") := by decide
/-- R110. -/
theorem test_result_dpTst : collected (.word .dataInstruction 0xE3110001#32)
    = some (.data (.ok ⟨⟨1⟩, .immediate 1 0, ⟨0⟩, .test, true⟩) "tst") := by decide
/-- R111. -/
theorem test_result_dpTeq : collected (.word .dataInstruction 0xE1310002#32)
    = some (.data (.ok ⟨⟨1⟩, .shift .logicalLeft ⟨2⟩ (.value 0), ⟨0⟩, .testEquivalence, true⟩) "teq") := by decide
/-- R112. -/
theorem test_result_dpCmp : collected (.word .dataInstruction 0xE3510000#32)
    = some (.data (.ok ⟨⟨1⟩, .immediate 0 0, ⟨0⟩, .compare, true⟩) "cmp") := by decide
/-- R113. -/
theorem test_result_dpCmn : collected (.word .dataInstruction 0xE3710001#32)
    = some (.data (.ok ⟨⟨1⟩, .immediate 1 0, ⟨0⟩, .compareNegated, true⟩) "cmn") := by decide
/-- R114. -/
theorem test_result_dpOrr : collected (.word .dataInstruction 0xE3800CFF#32)
    = some (.data (.ok ⟨⟨0⟩, .immediate 255 12, ⟨0⟩, .or, false⟩) "orr") := by decide
/-- R115. -/
theorem test_result_dpMov : collected (.word .dataInstruction 0xE3A0000A#32)
    = some (.data (.ok ⟨⟨0⟩, .immediate 10 0, ⟨0⟩, .move, false⟩) "mov") := by decide
/-- R116. -/
theorem test_result_dpBic : collected (.word .dataInstruction 0xE3C1100F#32)
    = some (.data (.ok ⟨⟨1⟩, .immediate 15 0, ⟨1⟩, .bitClear, false⟩) "bic") := by decide
/-- R117. -/
theorem test_result_dpMvn : collected (.word .dataInstruction 0xE1E00001#32)
    = some (.data (.ok ⟨⟨0⟩, .shift .logicalLeft ⟨1⟩ (.value 0), ⟨0⟩, .moveNot, false⟩) "mvn") := by decide
/-- R131. -/
theorem test_result_mulMul : collected (.word .multiply 0xE0030291#32) = some (.multiply
    { long := false, signed := false, accumulate := false, setConditionCodes := false,
      destination := ⟨3⟩, operand1 := ⟨0⟩, operand2 := ⟨2⟩, operand3 := ⟨1⟩ }) := by decide
/-- R132. -/
theorem test_result_mulMla : collected (.word .multiply 0xE0243291#32) = some (.multiply
    { long := false, signed := false, accumulate := true, setConditionCodes := false,
      destination := ⟨4⟩, operand1 := ⟨3⟩, operand2 := ⟨2⟩, operand3 := ⟨1⟩ }) := by decide
/-- R133. -/
theorem test_result_mulMulSigned : collected (.word .multiply 0xE0454796#32) = some (.multiply
    { long := false, signed := true, accumulate := false, setConditionCodes := false,
      destination := ⟨5⟩, operand1 := ⟨4⟩, operand2 := ⟨7⟩, operand3 := ⟨6⟩ }) := by decide
/-- R134. -/
theorem test_result_mulMlaSigned : collected (.word .multiply 0xE0654796#32) = some (.multiply
    { long := false, signed := true, accumulate := true, setConditionCodes := false,
      destination := ⟨5⟩, operand1 := ⟨4⟩, operand2 := ⟨7⟩, operand3 := ⟨6⟩ }) := by decide
/-- R135. -/
theorem test_result_mulUmull : collected (.word .multiply 0xE0854796#32) = some (.multiply
    { long := true, signed := false, accumulate := false, setConditionCodes := false,
      destination := ⟨5⟩, operand1 := ⟨4⟩, operand2 := ⟨7⟩, operand3 := ⟨6⟩ }) := by decide
/-- R136. -/
theorem test_result_mulUmlal : collected (.word .multiply 0xE0A54796#32) = some (.multiply
    { long := true, signed := false, accumulate := true, setConditionCodes := false,
      destination := ⟨5⟩, operand1 := ⟨4⟩, operand2 := ⟨7⟩, operand3 := ⟨6⟩ }) := by decide
/-- R137. -/
theorem test_result_mulSmull : collected (.word .multiply 0xE0C54796#32) = some (.multiply
    { long := true, signed := true, accumulate := false, setConditionCodes := false,
      destination := ⟨5⟩, operand1 := ⟨4⟩, operand2 := ⟨7⟩, operand3 := ⟨6⟩ }) := by decide
/-- R138. -/
theorem test_result_mulSmlal : collected (.word .multiply 0xE0F54796#32) = some (.multiply
    { long := true, signed := true, accumulate := true, setConditionCodes := true,
      destination := ⟨5⟩, operand1 := ⟨4⟩, operand2 := ⟨7⟩, operand3 := ⟨6⟩ }) := by decide

/-- Section 1.2, the source's example: bits 15:12 ignored, not rotated. -/
theorem test_result_shImm : collected (.shifter true 0xFACC#16) = some (.shifter (.ok (.immediate 0xCC 0xA))) := by decide
/-- Section 2.3: the "invalid" field is valid on the immediate path. -/
theorem test_result_shImm_of_the_invalid_field :
    collected (.shifter true 0x0B95#16) = some (.shifter (.ok (.immediate 0x95 11))) := by decide
/-- Section 1.3, the source's example: amount 9, not 25. -/
theorem test_result_shLslLiteral :
    collected (.shifter false 0x0C85#16) = some (.shifter (.ok (.shift .logicalLeft ⟨5⟩ (.value 9)))) := by decide
/-- Section 2.3: bits 11:7 = 10000 give amount 0. -/
theorem test_result_shLslLiteral_drops_bit_11 :
    collected (.shifter false 0x0800#16) = some (.shifter (.ok (.shift .logicalLeft ⟨0⟩ (.value 0)))) := by decide
/-- R89. -/
theorem test_result_shLsrLiteral :
    collected (.shifter false 0x0CA5#16) = some (.shifter (.ok (.shift .logicalRight ⟨5⟩ (.value 9)))) := by decide
/-- Section 2.3: amount 0 is not re-read as 32. -/
theorem test_result_shAsrLiteral :
    collected (.shifter false 0x0045#16) = some (.shifter (.ok (.shift .arithmeticRight ⟨5⟩ (.value 0)))) := by decide
/-- Section 2.3: no separate extended-rotate variant. -/
theorem test_result_shRorLiteral :
    collected (.shifter false 0x0060#16) = some (.shifter (.ok (.shift .rotateRight ⟨0⟩ (.value 0)))) := by decide
/-- Section 2.3: bits 15:12 ignored on success. -/
theorem test_result_shLslRegister :
    collected (.shifter false 0x8215#16) = some (.shifter (.ok (.shift .logicalLeft ⟨5⟩ (.register ⟨2⟩)))) := by decide
/-- R93. -/
theorem test_result_shLsrRegister :
    collected (.shifter false 0x0C35#16) = some (.shifter (.ok (.shift .logicalRight ⟨5⟩ (.register ⟨12⟩)))) := by decide
/-- R94. -/
theorem test_result_shAsrRegister :
    collected (.shifter false 0x0C55#16) = some (.shifter (.ok (.shift .arithmeticRight ⟨5⟩ (.register ⟨12⟩)))) := by decide
/-- Section 2.3: the largest valid register-amount field. -/
theorem test_result_shRorRegister :
    collected (.shifter false 0x0F7F#16) = some (.shifter (.ok (.shift .rotateRight ⟨15⟩ (.register ⟨15⟩)))) := by decide
/-- Section 1.4, the source's example, and section 2.3: bits 15:12 are kept in the payload. -/
theorem test_result_shInvalid : collected (.shifter false 0x0B95#16) = some (.shifter (.err (.invalidShifterOperand 0x0B95))) ∧
    collected (.shifter false 0xF090#16) = some (.shifter (.err (.invalidShifterOperand 0xF090))) := by decide

/-- Section 2.4: `mul r3, r1, r2` given to the DataInstruction decoder; the mnemonic is still there (R124). -/
theorem test_result_data_error :
    collected (.word .dataInstruction 0xE0030291#32) = some (.data (.err (.invalidShifterOperand 0x0291)) "and") := by decide
/-- Section 2.4: bit 25 = 1, so bits 4 and 7 cannot make it invalid; bits 31:26 are not tested. -/
theorem test_result_data_all_ones : collected (.word .dataInstruction 0xFFFFFFFF#32)
    = some (.data (.ok ⟨⟨15⟩, .immediate 0xFF 15, ⟨15⟩, .moveNot, true⟩) "mvn") := by decide
/-- Section 2.4: amount 4, not 20. -/
theorem test_result_data_literal_drops_bit_11 : collected (.word .dataInstruction 0xE0801A00#32)
    = some (.data (.ok ⟨⟨0⟩, .shift .logicalLeft ⟨0⟩ (.value 4), ⟨1⟩, .add, false⟩) "add") := by decide
/-- Section 2.4: a comparison with the flag clear. -/
theorem test_result_data_test_without_flags : collected (.word .dataInstruction 0xE10F0000#32)
    = some (.data (.ok ⟨⟨15⟩, .shift .logicalLeft ⟨0⟩ (.value 0), ⟨0⟩, .test, false⟩) "tst") := by decide
/-- Section 2.4: a register-specified amount. -/
theorem test_result_data_register_shift : collected (.word .dataInstruction 0xE1A00211#32)
    = some (.data (.ok ⟨⟨0⟩, .shift .logicalLeft ⟨1⟩ (.register ⟨2⟩), ⟨0⟩, .move, false⟩) "mov") := by decide

/-- Section 2.6. -/
theorem test_result_swpWord : collected (.word .swap 0xFFBF0FF0#32) = some (.swap ⟨⟨0⟩, ⟨0⟩, ⟨15⟩, .word⟩) := by decide
/-- R152. -/
theorem test_result_swpByte : collected (.word .swap 0xE1420091#32) = some (.swap ⟨⟨1⟩, ⟨0⟩, ⟨2⟩, .byte⟩) := by decide
/-- Section 2.7: bits 31:4 ignored. -/
theorem test_result_bx :
    collected (.word .branchExchange 0xE3A0000A#32) = some (.branchExchange (.branchAndExchange ⟨10⟩)) := by decide
/-- Section 2.7: the most negative offset. -/
theorem test_result_b : collected (.word .branch 0xFE800000#32) = some (.branch (.branch 0xFF800000 false)) := by decide
/-- Section 1.5, the source's example: not multiplied by 4. -/
theorem test_result_bl : collected (.word .branch 0x01522D52#32) = some (.branch (.branch 0x00522D52 true)) := by decide

/-- Section 2.1. -/
theorem test_getBits : getBits 0xE0801100#32 21 4 = 4 ∧ getBits 0xE0801100#32 0 32 = 0xE0801100#32 ∧
    getBits 0x0C85#16 7 5 = 25 ∧ getBits? 0xE0801100#32 32 0 = some 0 ∧ getBits? 0xFFFFFFFF#32 30 3 = none ∧
    getBits? 0xFACC#16 12 5 = none := by decide
/-- Section 2.1. -/
theorem test_flags_and_registers : isFlagSet? 0x80000000#32 31 = some true ∧ isFlagSet? 0x80000000#32 32 = none ∧
    getRegister? 0xFFFFFFFF#32 28 = some ⟨15⟩ ∧ getRegister? 0xFFFFFFFF#32 29 = none ∧
    Register.fromIndex? 16 = none := by decide
/-- Section 2.2: `ConditionCode.from_bits(16)` has no result. -/
theorem test_wide_value_is_refused :
    (match decodeRaw Config.standard .condIn 16 with
      | .ok _ => false
      | .error r => r == .widerThanPort .condIn 16) = true := by decide

/-- Section 2.8, the column of `0xE0030291`: an error in the `dp` group disturbs no other group. -/
theorem test_outputs_in_parallel : outputsOf 0xE0030291#32 =
    { cond := some .always, condMnemonic := some "al", so := some (.err (.invalidShifterOperand 0x0291)),
      dp := some (.err (.invalidShifterOperand 0x0291)), dpMnemonic := some "and",
      mul := some ⟨false, false, false, false, ⟨0⟩, ⟨2⟩, ⟨1⟩, ⟨3⟩⟩, swp := some ⟨⟨1⟩, ⟨0⟩, ⟨3⟩, .word⟩,
      bx := some (.branchAndExchange ⟨1⟩), b := some (.branch 197265 false) } := by decide
/-- R97, R124, R171: the wires of the same word. -/
theorem test_error_wires : (outputsOf 0xE0030291#32).wires.dp
    = some ⟨none, none, none, none, { ShifterWires.silent with err := true, errPayload := some 0x0291 }⟩ := by decide
/-- R61, R101: `eq` is 0x6571 and `add` is 0x616464. -/
theorem test_mnemonic_wires : mnemonicWires 2 "eq" = 0x6571#16 ∧ mnemonicWires 3 "add" = 0x616464#24 := by decide

/-- Log entry 5: one row of each format that a bare table word names. -/
theorem test_decodeTableWord : decodeTableWord 8 0xE = some .condAl ∧
    decodeTableWord 24 0x00030 = some (.shLsrRegister ⟨0⟩ ⟨0⟩) ∧ decodeTableWord 24 0x10000 = some (.shImm 0 0) ∧
    decodeTableWord 32 0x01E00000 = some (.dpMvn ⟨false, false, ⟨0⟩, ⟨0⟩, 0⟩) ∧
    decodeTableWord 24 0x00A00000 = some (.mulUmlal ⟨false, ⟨0⟩, ⟨0⟩, ⟨0⟩, ⟨0⟩⟩) ∧ decodeTableWord 40 0 = none := by decide
/-- R192, log entry 6: from reset, with nothing presented, a step has no result. -/
theorem test_step_from_reset : (match step State.reset with | .refused r => r == .noInput | _ => false) = true := by decide

/-! ### Witnesses: for each statement with hypotheses, values that meet them together, at a boundary for each clause -/

/-- Fields with a rotated immediate, a literal shift, a register shift and an invalid shifter field. -/
def immediateFields : DataFields := ⟨true, false, ⟨15⟩, ⟨15⟩, 0xFFFF#16⟩
def literalFields : DataFields := ⟨false, true, ⟨0⟩, ⟨0⟩, 0x0FEF#16⟩
def registerFields : DataFields := ⟨false, false, ⟨0⟩, ⟨0⟩, 0x0F7F#16⟩
def invalidFields : DataFields := ⟨false, false, ⟨0⟩, ⟨15⟩, 0xF090#16⟩

theorem witness_DecodeOfEncodeIsTheInstruction :
    (Instr.dpMvn invalidFields).wellFormed = true ∧ (Instr.shInvalid 0x0090#16).wellFormed = true := by decide

theorem witness_EncodeOfDecodeClearsExactlyTheIgnoredBits :
    (0xFFEF#16).getLsbD 4 = false ∧ ((0x0010#16).getLsbD 4 = true ∧ (0x0010#16).getLsbD 7 = false) ∧
    ((0x0090#16).getLsbD 4 = true ∧ (0x0090#16).getLsbD 7 = true) := by decide

theorem witness_TheTableRowsOfAFormatPartitionItsInputs :
    (Presentation.shifter false 0xFFFF#16).port ≠ .iw .condition ∧
    (Instr.shInvalid 0xFFFF#16).row.port = (Presentation.shifter false 0xFFFF#16).port ∧
    (Presentation.shifter false 0xFFFF#16).bits &&& (Instr.shInvalid 0xFFFF#16).row.mask
      = (Instr.shInvalid 0xFFFF#16).row.pattern := by decide

theorem witness_ValuesWiderThanThePortAreRefusedByName :
    2 ^ Port.condIn.width ≤ 16 ∧ 15 < 2 ^ Port.condIn.width ∧ 2 ^ Port.shifter.width ≤ 131072 ∧
    131071 < 2 ^ Port.shifter.width ∧ 2 ^ (Port.iw .swap).width ≤ 4294967296 ∧ 4294967295 < 2 ^ (Port.iw .swap).width := by
  decide

theorem witness_BitFieldPrimitivesFollowTheirDefinitions :
    32 + 0 ≤ 32 ∧ 0 + 32 ≤ 32 ∧ 3 < 4 ∧ 28 + 4 ≤ 32 ∧ 31 + 1 ≤ 32 := by decide

theorem witness_UsesOutsideThePreconditionHaveNoResult :
    (32 < 29 + 4 ∧ 28 + 4 ≤ 32) ∧ (32 < 32 + 1 ∧ 31 + 1 ≤ 32) ∧ (15 < 16 ∧ 15 ≤ 15) := by decide

theorem witness_BitFieldLaws :
    16 + 16 ≤ 32 ∧ (∀ i, 4 ≤ i → i < 4 + 4 → (0xFFF0#16).getLsbD i = (0x0FFF#16).getLsbD i) ∧ 12 + 4 ≤ 16 ∧
    16 + 12 + 4 ≤ 32 ∧ 16 ≤ 32 := by
  refine ⟨by decide, fun i h1 h2 => ?_, by decide, by decide, by decide⟩
  interval_cases i <;> rfl

theorem witness_ConditionRowsEqualToOverflowClear :
    (0b0111#4, Instr.condVc, ConditionCode.overflowClear, "vc", 0x7A000000#32) ∈
      [(0b0000#4, Instr.condEq, ConditionCode.equal, "eq", 0x0A000000#32),
        (0b0111#4, .condVc, .overflowClear, "vc", 0x7A000000#32)] ∧ Config.standard.condLsb = 28 := by decide

theorem witness_ConditionRowsUnsignedHigherToNever :
    tiedCondition Config.standard 0xFA000000#32 = 0b1111#4 ∧ Config.standard.condLsb = 28 := by decide

theorem witness_TheConditionDecoderIsABijection :
    (ConditionCode.fromBits 15).toMnemonic = ConditionCode.never.toMnemonic := by decide

theorem witness_TheOpcodeFieldSelectsTheDataRow :
    (0x01E00000#32).extractLsb' 21 4 = 0b1111#4 ∧ (0xFE1FFFFF#32).extractLsb' 21 4 = 0b0000#4 := by decide

theorem witness_DataRowsWithARotatedImmediate : immediateFields.isImmediate = true := by decide

theorem witness_DataRowsWithALiteralShift :
    literalFields.isImmediate = false ∧ literalFields.shifterField.getLsbD 4 = false := by decide

theorem witness_DataRowsWithARegisterShift :
    registerFields.isImmediate = false ∧ registerFields.shifterField.getLsbD 4 = true ∧
    registerFields.shifterField.getLsbD 7 = false := by decide

theorem witness_DataRowsWithAnInvalidShifterField :
    invalidFields.isImmediate = false ∧ invalidFields.shifterField.getLsbD 4 = true ∧
    invalidFields.shifterField.getLsbD 7 = true := by decide

theorem witness_LiteralShiftRows :
    (0xFF8F#16).extractLsb' 4 3 = 0b000#3 ∧ (0xFFAF#16).extractLsb' 4 3 = 0b010#3 ∧
    (0xFFCF#16).extractLsb' 4 3 = 0b100#3 ∧ (0x0060#16).extractLsb' 4 3 = 0b110#3 := by decide

theorem witness_RegisterShiftRows :
    (0x0010#16).extractLsb' 4 4 = 0b0001#4 ∧ (0xFF3F#16).extractLsb' 4 4 = 0b0011#4 ∧
    (0x0050#16).extractLsb' 4 4 = 0b0101#4 ∧ (0xFF7F#16).extractLsb' 4 4 = 0b0111#4 := by decide

theorem witness_ImmediateAndInvalidShifterRows :
    0xFFFF#16 &&& 0x0090#16 = 0x0090#16 ∧
    ShifterOperand.fromRegisterOperand 0x0090#16 = .err (.invalidShifterOperand 0x0090#16) := by decide

theorem witness_MultiplyRows :
    (0xFF1FFFFF#32).extractLsb' 21 3 = 0b000#3 ∧ (0x00200000#32).extractLsb' 21 3 = 0b001#3 ∧
    (0x00400000#32).extractLsb' 21 3 = 0b010#3 ∧ (0x00600000#32).extractLsb' 21 3 = 0b011#3 ∧
    (0x00800000#32).extractLsb' 21 3 = 0b100#3 ∧ (0x00A00000#32).extractLsb' 21 3 = 0b101#3 ∧
    (0x00C00000#32).extractLsb' 21 3 = 0b110#3 ∧ (0x00E00000#32).extractLsb' 21 3 = 0b111#3 := by decide

theorem witness_SwapRows : (0xFFBFFFFF#32).getLsbD 22 = false ∧ (0x00400000#32).getLsbD 22 = true := by decide

theorem witness_TheBranchExchangeRow : (0xFFFFFFFF#32).extractLsb' 0 4 = (0x0000000F#32).extractLsb' 0 4 := by decide

theorem witness_TheBranchRows : (0xFEFFFFFF#32).getLsbD 24 = false ∧ (0x01000000#32).getLsbD 24 = true := by decide

theorem witness_TheBranchOffsetIsTheSignExtendedField :
    (0x7FFFFF#24).toNat < 2 ^ 23 ∧ 2 ^ 23 ≤ (0x800000#24).toNat ∧ branchOffset 0x800000#24 = branchOffset 0x800000#24 := by
  decide

theorem witness_TheDataInstructionDecoderFollowsItsFieldMap :
    (0x02000090#32).getLsbD 25 = true ∧ ((0xFDFFFFEF#32).getLsbD 25 = false ∧ (0xFDFFFFEF#32).getLsbD 4 = false) ∧
    ((0xFDFFFF7F#32).getLsbD 25 = false ∧ (0xFDFFFF7F#32).getLsbD 4 = true ∧ (0xFDFFFF7F#32).getLsbD 7 = false) ∧
    ((0x00000090#32).getLsbD 25 = false ∧ (0x00000090#32).getLsbD 4 = true ∧ (0x00000090#32).getLsbD 7 = true) := by
  decide

theorem witness_TheOneInvalidEncoding :
    DataInstruction.fromBits 0x00000090#32 = .err (.invalidShifterOperand 0x0090#16) ∧
    0x00000090#32 &&& 0x02000090#32 = 0x00000090#32 := by decide

theorem witness_TheShifterFieldsFallInThreeCases :
    (0xFFEF#16).getLsbD 4 = false ∧ ((0xFF7F#16).getLsbD 4 = true ∧ (0xFF7F#16).getLsbD 7 = false) ∧
    ((0x0090#16).getLsbD 4 = true ∧ (0x0090#16).getLsbD 7 = true) ∧
    ShifterOperand.fromRegisterOperand 0x0090#16 = .err (.invalidShifterOperand 0x0090#16) ∧
    State.iw { State.reset with driven := some (.word .dataInstruction 0x00000090#32) } = some 0x00000090#32 := by decide

theorem witness_IgnoredBitsOfADataWordChangeNothing :
    0xFC000000#32 &&& 0x03FFFFFF#32 = 0x00000000#32 &&& 0x03FFFFFF#32 ∧
    (0xFDFFFFEF#32).getLsbD 25 = false ∧ (0xFDFFFFEF#32).getLsbD 4 = false := by decide

/-- Two data words with a result, and for each clause a pair that differs in that field only. -/
theorem witness_TheFieldsOfADataInstructionAreIndependent :
    (∃ da, DataInstruction.fromBits 0x00000000#32 = .ok da) ∧
    (∀ b ∈ [0x01E00000#32, 0x00100000#32, 0x000F0000#32, 0x0000F000#32, 0x02000000#32, 0x0000FF6F#32],
      ∃ db, DataInstruction.fromBits b = .ok db) ∧
    0x00000000#32 &&& ~~~0x01E00000#32 = 0x01E00000#32 &&& ~~~0x01E00000#32 ∧
    0x00000000#32 &&& ~~~0x00100000#32 = 0x00100000#32 &&& ~~~0x00100000#32 ∧
    0x00000000#32 &&& ~~~0x000F0000#32 = 0x000F0000#32 &&& ~~~0x000F0000#32 ∧
    0x00000000#32 &&& ~~~0x0000F000#32 = 0x0000F000#32 &&& ~~~0x0000F000#32 ∧
    0x00000000#32 &&& ~~~0x02000000#32 = 0x02000000#32 &&& ~~~0x02000000#32 ∧
    0x00000000#32 &&& ~~~0x0000FFFF#32 = 0x0000FF6F#32 &&& ~~~0x0000FFFF#32 ∧
    0x00000000#32 &&& 0x02000090#32 = 0xFDFFFF6F#32 &&& 0x02000090#32 := by
  refine ⟨⟨_, rfl⟩, ?_, by decide, by decide, by decide, by decide, by decide, by decide, by decide⟩
  intro b hb
  simp only [List.mem_cons, List.not_mem_nil, or_false] at hb
  rcases hb with rfl | rfl | rfl | rfl | rfl | rfl <;> exact ⟨_, rfl⟩

theorem witness_TheSwapFieldsAndWires :
    (0x00400000#32).getLsbD 22 = (0xFFFFFFFF#32).getLsbD 22 ∧
    (0x000F0000#32).extractLsb' 16 4 = (0xFFFFFFFF#32).extractLsb' 16 4 ∧
    (0x0000F000#32).extractLsb' 12 4 = (0xFFFFFFFF#32).extractLsb' 12 4 ∧
    (0x0000000F#32).extractLsb' 0 4 = (0xFFFFFFFF#32).extractLsb' 0 4 := by decide

theorem witness_TheShifterWires :
    (shifterWires (ShifterOperand.decode false 0x0090#16)).err = true ∧
    ((0x0010#16).getLsbD 4 = true ∧ (shifterWires (ShifterOperand.decode false 0x0010#16)).err = false) ∧
    (0xFFEF#16).getLsbD 4 = false := by decide

theorem witness_TheDataWires :
    (dataWires (DataInstruction.fromBits 0x00000090#32)).err = true ∧
    (dataWires (DataInstruction.fromBits 0xFFFFFFFF#32)).err = false ∧
    State.iw { State.reset with driven := some (.word .swap 0xFFFFFFFF#32) } = some 0xFFFFFFFF#32 := by decide

theorem witness_TheMultiplyAndBranchWires : 24 ≤ 24 ∧ 24 < 32 ∧ 24 ≤ 31 ∧ 31 < 32 := by decide

theorem witness_TheMnemonicWires :
    Config.standard.wf = true ∧ DataOpcode.move.toMnemonic Config.standard = (DataOpcode.fromBits 13).toMnemonic Config.standard := by
  decide

/-- A state with two pairs to present, the first an invalid data word. -/
def loaded : State :=
  { State.reset with pending := [.word .dataInstruction 0x00000090#32, .condIn 0xF#4] }

theorem witness_AStepRunsTheDecodedInstruction :
    loaded.pending = .word .dataInstruction 0x00000090#32 :: [.condIn 0xF#4] := by decide

theorem witness_AStepWithNothingToPresentRefuses : State.reset.pending = [] := by decide

theorem witness_ResultsDoNotDependOnHistory : loaded.design = State.reset.design ∧ loaded ≠ State.reset := by decide

/-- `loaded` steps: the premise of every statement about a step's next state. -/
theorem witness_step_of_loaded : ∃ t, step loaded = .next t ∧ loaded.Inv :=
  ⟨_, rfl, by decide, by simp [loaded, State.reset]⟩

theorem witness_AStepRecordsTheChosenDecodersResult :
    loaded.pending = .word .dataInstruction 0x00000090#32 :: [.condIn 0xF#4] := by decide

theorem witness_AllDecodersEvaluateInParallel :
    loaded.pending = .word .dataInstruction 0x00000090#32 :: [.condIn 0xF#4] ∧ ∃ t, step loaded = .next t :=
  ⟨by decide, _, rfl⟩

theorem witness_TheRecordedResultStandsOnTheChosenGroup : ∃ t, step loaded = .next t := ⟨_, rfl⟩

theorem witness_TheObservationOfARunIsPointwise :
    loaded.pending = [.word .dataInstruction 0x00000090#32, .condIn 0xF#4] ++ [] := by decide

theorem witness_PermutedProgramsGivePermutedResults :
    List.Perm [Presentation.condIn 0#4, .condIn 0xF#4] [.condIn 0xF#4, .condIn 0#4] ∧
    (∃ t, Sys2Proof.core.run 2 { State.reset with pending := [.condIn 0#4, .condIn 0xF#4], observed := [] } = .next t) ∧
    (∃ u, Sys2Proof.core.run 2 { State.reset with pending := [.condIn 0xF#4, .condIn 0#4], observed := [] } = .next u) :=
  ⟨List.Perm.swap .., ⟨_, rfl⟩, ⟨_, rfl⟩⟩

theorem witness_EveryStepKeepsTheInvariant : loaded.Inv ∧ ∃ t, step loaded = .next t :=
  ⟨⟨by decide, by simp [loaded, State.reset]⟩, _, rfl⟩

theorem witness_TheErrorWireIsAFunctionOfTheWord :
    loaded.pending = .word .dataInstruction 0x00000090#32 :: [.condIn 0xF#4] ∧ ∃ t, step loaded = .next t :=
  ⟨by decide, _, rfl⟩

theorem witness_ATableWordIsTheNextInstructionRun :
    loaded.design = Config.standard ∧ decodeTableWord 8 0xF = some .condNv := by decide

end Sys2Proof.Tests
end

section
/-! Settles the statements of 30_encoding.md: an error of the data-instruction decoder, traced down to the bits of the word
that cause it. -/

namespace Sys2Proof

/-- R81, R85: the shifted-register entry point refuses exactly the fields with bits 4 and 7 set. -/
theorem ShifterOperand.fromRegisterOperand_err_iff {f : Field} {e : DecodeError} :
    ShifterOperand.fromRegisterOperand f = .err e ↔
      f.getLsbD 4 = true ∧ f.getLsbD 7 = true ∧ e = .invalidShifterOperand f := by
  unfold ShifterOperand.fromRegisterOperand
  rw [isFlagSet_eq_getLsbD, isFlagSet_eq_getLsbD]
  cases f.getLsbD 4
  case false => simp
  case true =>
    cases f.getLsbD 7
    case false => simp
    case true => simp [eq_comm]

/-- R96: only the shifted-register entry point can fail. -/
theorem ShifterOperand.decode_err_iff {isImmediate : Bool} {f : Field} {e : DecodeError} :
    ShifterOperand.decode isImmediate f = .err e ↔
      isImmediate = false ∧ ShifterOperand.fromRegisterOperand f = .err e := by
  cases isImmediate <;> simp [ShifterOperand.decode]

/-- R121: an error of the shifter operand, and no other, is the error of the data instruction. -/
theorem DataInstruction.fromBits_err_iff_decode {iw : Word} {e : DecodeError} :
    DataInstruction.fromBits iw = .err e ↔
      ShifterOperand.decode (isFlagSet iw 25) (getBits iw 0 16) = .err e := by
  rw [← Machine.dataResult_dataFieldsOf, Machine.dataResult_err_iff]
  rfl

/-- R46, R121: when a data word is an error, and which error it is. -/
theorem DataInstruction.fromBits_err_iff {iw : Word} {e : DecodeError} :
    DataInstruction.fromBits iw = .err e ↔
      iw.getLsbD 25 = false ∧ iw.getLsbD 4 = true ∧ iw.getLsbD 7 = true ∧
        e = .invalidShifterOperand (iw.extractLsb' 0 16) := by
  rw [fromBits_err_iff_decode, ShifterOperand.decode_err_iff, ShifterOperand.fromRegisterOperand_err_iff,
    isFlagSet_eq_getLsbD, getBits_eq_extract]
  simp

/-- The mask of R46 keeps bits 25, 7 and 4. -/
theorem invalidMask_getLsbD_iff {i : Nat} : (0x02000090#32).getLsbD i = true ↔ i = 25 ∨ i = 4 ∨ i = 7 := by
  constructor
  · intro h
    have hbits : ∀ j : Fin 32, (0x02000090#32).getLsbD j = true → j.val = 25 ∨ j.val = 4 ∨ j.val = 7 := by decide
    exact hbits ⟨i, BitVec.lt_of_getLsbD h⟩ h
  · rintro (rfl | rfl | rfl) <;> rfl

/-- R46: the pattern of the one invalid encoding, bit by bit. -/
theorem matches_invalidPattern_iff {iw : Word} :
    iw &&& 0x02000090#32 = 0x00000090#32 ↔
      iw.getLsbD 25 = false ∧ iw.getLsbD 4 = true ∧ iw.getLsbD 7 = true := by
  have hpattern : 0x00000090#32 = 0x00000090#32 &&& 0x02000090#32 := by decide
  rw [hpattern, and_eq_and_iff]
  simp [invalidMask_getLsbD_iff]

/-- Settles O28: the error of a data word is decided by bits 25, 4 and 7, which are the bits of the pattern. -/
theorem theOneInvalidEncoding : Obligations.TheOneInvalidEncoding := by
  intro iw
  constructor
  · rw [matches_invalidPattern_iff]
    constructor
    · rintro ⟨e, he⟩
      obtain ⟨h25, h4, h7, -⟩ := DataInstruction.fromBits_err_iff.mp he
      exact ⟨h25, h4, h7⟩
    · rintro ⟨h25, h4, h7⟩
      exact ⟨_, DataInstruction.fromBits_err_iff.mpr ⟨h25, h4, h7, rfl⟩⟩
  · intro e he
    obtain ⟨-, -, -, hpayload⟩ := DataInstruction.fromBits_err_iff.mp he
    exact hpayload

end Sys2Proof
end

section
/-! Settles the statements of 40_bitfield.md: each primitive inside its precondition, for every width. -/

namespace Sys2Proof

/-- R50: an extracted value fits its length. At length 0 the bound is 0. -/
theorem getBits_toNat_le {W : Nat} (w : BitVec W) (o l : Nat) (h : o + l ≤ W) :
    (getBits w o l h).toNat ≤ 2 ^ l - 1 :=
  Nat.le_sub_one_of_lt (getBits w o l h).isLt

/-- R50: bit `i` of an extracted value is bit `o + i` of the word. -/
theorem getBits_getLsbD_of_lt {W : Nat} (w : BitVec W) {o l i : Nat} (h : o + l ≤ W) (hi : i < l) :
    (getBits w o l h).getLsbD i = w.getLsbD (o + i) := by
  rw [getBits_getLsbD, decide_eq_true hi, Bool.true_and]

/-- R52: the register names the four bits of the word at the offset. -/
theorem getRegister_eq_extract {W : Nat} (w : BitVec W) (o : Nat) (h : o + 4 ≤ W) :
    getRegister w o h = ⟨w.extractLsb' o 4⟩ := by
  rw [getRegister_eq, getBits_eq_extract]

/-- Settles O8: the definitions of the three primitives for every width, then the examples of R50, R51 and R52. -/
theorem bitFieldPrimitivesFollowTheirDefinitions : Obligations.BitFieldPrimitivesFollowTheirDefinitions := by
  refine ⟨fun W w o l h => ⟨?value, ?range, fun i hi => ?bits⟩, fun W w o h => ⟨?flagIsGetBits, ?flagIsBit⟩,
    ?register, ?examples⟩
  case value => exact getBits_toNat w o l h
  case range => exact getBits_toNat_le w o l h
  case bits => exact getBits_getLsbD_of_lt w h hi
  case flagIsGetBits => rfl
  case flagIsBit => exact isFlagSet_eq_getLsbD w o h
  case register => exact fun W w o h => getRegister_eq_extract w o h
  case examples => decide

end Sys2Proof
end

section
/-! Settles O11 and O12, the rows of 41_condition_code.md: a row of the condition table is read off its code, and its
result is that code's enumerant and mnemonic. -/

namespace Sys2Proof

open Machine

/-- R15: where the condition field stands with `COND_LSB` = 28. -/
theorem tiedCondition_eq_extract_of_condLsb {cfg : Config} (hlsb : cfg.condLsb = 28) (iw : Word) :
    tiedCondition cfg iw = iw.extractLsb' 28 4 := by
  rw [tiedCondition, getBits_eq_extract, hlsb]
  rfl

/-- R16: the row a code selects records the code's enumerant and mnemonic, and leaves the rest of the state alone. -/
theorem exec_decodeCondition_next (code : BitVec 4) (s : State) :
    exec (decodeCondition code) s = .next { s with observed := s.observed ++
      [.condition (ConditionCode.fromBits code) (ConditionCode.fromBits code).toMnemonic] } := by
  rw [exec_decodeCondition, conditionRow_eq]
  rfl

/-- What a rule R62 to R77 prints agrees with the model's tables: its code, row, enumerant, mnemonic and example word. -/
abbrev ConditionTableEntry (code : BitVec 4) (row : Instr) (cc : ConditionCode) (mnemonic : String) (iw : Word) : Prop :=
  decodeCondition code = row ∧ ConditionCode.fromBits code = cc ∧ cc.toMnemonic = mnemonic ∧ iw.extractLsb' 28 4 = code

/-- An entry of the tables is decoded and executed as its rule says, on `cond_in` and behind the tie of R15. -/
theorem ConditionTableEntry.meets_rule {code : BitVec 4} {row : Instr} {cc : ConditionCode} {mnemonic : String} {iw : Word}
    (hentry : ConditionTableEntry code row cc mnemonic iw) :
    (∀ s : State, exec row s = .next { s with observed := s.observed ++ [.condition cc mnemonic] }) ∧
    (∀ cfg : Config, decode cfg (.condIn code) = row) ∧
    ConditionCode.fromBits code = cc ∧ cc.toMnemonic = mnemonic ∧
    (∀ cfg : Config, cfg.condLsb = 28 →
      tiedCondition cfg iw = code ∧ decode cfg (.word .condition iw) = row) := by
  obtain ⟨hrow, hcc, hmnemonic, hfield⟩ := hentry
  refine ⟨fun s => ?result, fun cfg => ?condIn, hcc, hmnemonic, fun cfg hlsb => ?tie⟩
  case result => rw [← hrow, exec_decodeCondition_next, hcc, hmnemonic]
  case condIn => exact hrow
  case tie =>
    have htied : tiedCondition cfg iw = code := (tiedCondition_eq_extract_of_condLsb hlsb iw).trans hfield
    exact ⟨htied, (congrArg decodeCondition htied).trans hrow⟩

/-- Settles O11: each of the rules R62 to R69 prints an entry of the model's tables. -/
theorem conditionRowsEqualToOverflowClear : Obligations.ConditionRowsEqualToOverflowClear := by
  intro r hr
  apply ConditionTableEntry.meets_rule
  revert r
  decide

/-- Settles O12: each of the rules R70 to R77 prints an entry of the model's tables. -/
theorem conditionRowsUnsignedHigherToNever : Obligations.ConditionRowsUnsignedHigherToNever := by
  intro r hr
  apply ConditionTableEntry.meets_rule
  revert r
  decide

end Sys2Proof
end

section
/-! Settles O19, O20, O21 and O29, the statements of 42_shifter_operand.md: the table's row and the decoder function of a
field by its bits 4 and 7 (R87), then each printed pattern as a choice of those bits and of the operation code. -/

namespace Sys2Proof

/-- R54, composition: a slice of a slice is a slice of the word. -/
theorem extract_extract {W : Nat} (w : BitVec W) {o l o' l' : Nat} (h : o' + l' ≤ l) :
    (w.extractLsb' o l).extractLsb' o' l' = w.extractLsb' (o + o') l' := by
  apply BitVec.eq_of_getLsbD_eq
  intro i hi
  have hil : o' + i < l := by omega
  simp [hi, hil, Nat.add_assoc]

/-! ### The two entry points -/

theorem ShifterOperand.fromImmediate_eq_extract (f : Field) :
    ShifterOperand.fromImmediate f = .immediate (f.extractLsb' 0 8) (f.extractLsb' 8 4) := by
  rw [ShifterOperand.fromImmediate, getBits_eq_extract, getBits_eq_extract]

theorem ShifterOperand.decode_true (f : Field) :
    ShifterOperand.decode true f = .ok (ShifterOperand.fromImmediate f) := rfl

theorem ShifterOperand.decode_false (f : Field) :
    ShifterOperand.decode false f = ShifterOperand.fromRegisterOperand f := rfl

section FieldCases

variable {f : Field}

/-- R83. -/
theorem ShifterOperand.fromRegisterOperand_of_literal (h4 : f.getLsbD 4 = false) :
    ShifterOperand.fromRegisterOperand f
      = .ok (.shift (ShiftOperation.fromCode (f.extractLsb' 5 2)) ⟨f.extractLsb' 0 4⟩
          (.value (literalAmount (f.extractLsb' 7 4)))) := by
  simp only [fromRegisterOperand, isFlagSet_eq_getLsbD, getBits_eq_extract, getRegister_eq_extract, h4, Bool.false_eq_true,
    if_false]

/-- R84. -/
theorem ShifterOperand.fromRegisterOperand_of_register (h4 : f.getLsbD 4 = true) (h7 : f.getLsbD 7 = false) :
    ShifterOperand.fromRegisterOperand f
      = .ok (.shift (ShiftOperation.fromCode (f.extractLsb' 5 2)) ⟨f.extractLsb' 0 4⟩
          (.register ⟨f.extractLsb' 8 4⟩)) := by
  simp only [fromRegisterOperand, isFlagSet_eq_getLsbD, getBits_eq_extract, getRegister_eq_extract, h4, h7,
    Bool.false_eq_true, if_true, if_false]

/-- R85. -/
theorem ShifterOperand.fromRegisterOperand_of_invalid (h4 : f.getLsbD 4 = true) (h7 : f.getLsbD 7 = true) :
    ShifterOperand.fromRegisterOperand f = .err (.invalidShifterOperand f) :=
  fromRegisterOperand_err_iff.mpr ⟨h4, h7, rfl⟩

/-! ### The row of a field -/

theorem decodeShifter_true (f : Field) :
    decodeShifter true f = .shImm (f.extractLsb' 0 8) (f.extractLsb' 8 4) := by
  simp [decodeShifter, getBits_eq_extract]

theorem decodeShifter_of_literal (h4 : f.getLsbD 4 = false) :
    decodeShifter false f
      = rowOfLiteralShift (f.extractLsb' 5 2) (f.extractLsb' 7 4) ⟨f.extractLsb' 0 4⟩ := by
  simp only [decodeShifter, isFlagSet_eq_getLsbD, getBits_eq_extract, getRegister_eq_extract, h4, Bool.false_eq_true,
    if_false]

theorem decodeShifter_of_register (h4 : f.getLsbD 4 = true) (h7 : f.getLsbD 7 = false) :
    decodeShifter false f
      = rowOfRegisterShift (f.extractLsb' 5 2) ⟨f.extractLsb' 8 4⟩ ⟨f.extractLsb' 0 4⟩ := by
  simp only [decodeShifter, isFlagSet_eq_getLsbD, getBits_eq_extract, getRegister_eq_extract, h4, h7, Bool.false_eq_true,
    if_true, if_false]

theorem decodeShifter_of_invalid (h4 : f.getLsbD 4 = true) (h7 : f.getLsbD 7 = true) :
    decodeShifter false f = .shInvalid f := by
  simp only [decodeShifter, isFlagSet_eq_getLsbD, h4, h7, Bool.false_eq_true, if_true, if_false]

/-! ### The printed patterns -/

/-- R82: bits 6:5 of a field, read off a pattern that starts at bit 4. -/
theorem operationCode_of_pattern {l : Nat} (hl : 3 ≤ l) :
    (f.extractLsb' 4 l).extractLsb' 1 2 = f.extractLsb' 5 2 :=
  extract_extract f hl

/-- The mask of R85 keeps bits 4 and 7. -/
theorem invalidFieldMask_getLsbD_iff {i : Nat} : (0x0090#16).getLsbD i = true ↔ i = 4 ∨ i = 7 := by
  constructor
  · intro h
    have hbits : ∀ j : Fin 16, (0x0090#16).getLsbD j = true → j.val = 4 ∨ j.val = 7 := by decide
    exact hbits ⟨i, BitVec.lt_of_getLsbD h⟩ h
  · rintro (rfl | rfl) <;> rfl

/-- R85: the pattern of an invalid field, bit by bit. -/
theorem matches_invalidField_iff : f &&& 0x0090#16 = 0x0090#16 ↔ f.getLsbD 4 = true ∧ f.getLsbD 7 = true := by
  have hmask := and_eq_and_iff f 0x0090#16 0x0090#16
  rw [BitVec.and_self] at hmask
  rw [hmask]
  simp [invalidFieldMask_getLsbD_iff]

end FieldCases

end Sys2Proof

namespace Sys2Proof.Machine

/-- What a rule R88 to R91 prints agrees with the model's tables: in its pattern of bits 6:4 bit 4 is clear, the two bits
above it select its row and operation, and its example shows the pattern, amount 9 and source 5. -/
abbrev LiteralShiftEntry (pattern : BitVec 3) (row : BitVec 4 → Register → Instr) (op : ShiftOperation)
    (sample : Field) : Prop :=
  pattern.getLsbD 0 = false ∧ rowOfLiteralShift (pattern.extractLsb' 1 2) = row ∧
    ShiftOperation.fromCode (pattern.extractLsb' 1 2) = op ∧
    sample.extractLsb' 4 3 = pattern ∧ sample.extractLsb' 7 4 = 9 ∧ sample.extractLsb' 0 4 = 5

/-- A field that shows an entry's pattern is decoded to the entry's row and operation. -/
theorem LiteralShiftEntry.decodes {pattern : BitVec 3} {row : BitVec 4 → Register → Instr} {op : ShiftOperation}
    {sample f : Field} (hentry : LiteralShiftEntry pattern row op sample) (hf : f.extractLsb' 4 3 = pattern) :
    decodeShifter false f = row (f.extractLsb' 7 4) ⟨f.extractLsb' 0 4⟩ ∧
    ShifterOperand.fromRegisterOperand f
      = .ok (.shift op ⟨f.extractLsb' 0 4⟩ (.value ((f.extractLsb' 7 4).setWidth 5))) := by
  subst hf
  obtain ⟨hbit4, hrow, hop, -⟩ := hentry
  rw [operationCode_of_pattern (by decide)] at hrow hop
  have h4 : f.getLsbD 4 = false := by simpa using hbit4
  rw [decodeShifter_of_literal h4, ShifterOperand.fromRegisterOperand_of_literal h4, hrow, hop]
  exact ⟨rfl, rfl⟩

/-- An entry's fields are decoded and its row executed as its rule says. -/
theorem LiteralShiftEntry.meets_rule {pattern : BitVec 3} {row : BitVec 4 → Register → Instr} {op : ShiftOperation}
    {sample : Field} (hentry : LiteralShiftEntry pattern row op sample) :
    (∀ amount source (s : State), exec (row amount source) s = .next { s with observed := s.observed ++
      [.shifter (.ok (.shift op source (.value (amount.setWidth 5))))] }) ∧
    (∀ (cfg : Config) (f : Field), f.extractLsb' 4 3 = pattern →
      decode cfg (.shifter false f) = row (f.extractLsb' 7 4) ⟨f.extractLsb' 0 4⟩ ∧
      ShifterOperand.fromRegisterOperand f
        = .ok (.shift op ⟨f.extractLsb' 0 4⟩ (.value ((f.extractLsb' 7 4).setWidth 5)))) ∧
    ShifterOperand.fromRegisterOperand sample = .ok (.shift op ⟨5⟩ (.value 9)) := by
  have ⟨_, hrow, hop, hsample, hamount, hsource⟩ := hentry
  refine ⟨fun amount source s => ?result, fun cfg f hf => hentry.decodes hf, ?sample⟩
  case result =>
    rw [← hrow, exec_rowOfLiteralShift, hop, literalShiftRow_eq]
    rfl
  case sample =>
    rw [(hentry.decodes hsample).2, hamount, hsource]
    rfl

/-- Settles O19: each of the rules R88 to R91 prints an entry of the model's tables. -/
theorem literalShiftRows : Obligations.LiteralShiftRows := by
  intro r hr
  apply LiteralShiftEntry.meets_rule
  simp only [List.mem_cons, List.not_mem_nil, or_false] at hr
  rcases hr with rfl | rfl | rfl | rfl
  all_goals exact ⟨rfl, rfl, rfl, rfl, rfl, rfl⟩

/-- What a rule R92 to R95 prints agrees with the model's tables: in its pattern of bits 7:4 bit 4 is set and bit 7 clear,
the two bits between them select its row and operation, and its example shows the pattern, amount register 12 and
source 5. -/
abbrev RegisterShiftEntry (pattern : BitVec 4) (row : Register → Register → Instr) (op : ShiftOperation)
    (sample : Field) : Prop :=
  pattern.getLsbD 0 = true ∧ pattern.getLsbD 3 = false ∧ rowOfRegisterShift (pattern.extractLsb' 1 2) = row ∧
    ShiftOperation.fromCode (pattern.extractLsb' 1 2) = op ∧
    sample.extractLsb' 4 4 = pattern ∧ sample.extractLsb' 8 4 = 12 ∧ sample.extractLsb' 0 4 = 5

/-- A field that shows an entry's pattern is decoded to the entry's row and operation. -/
theorem RegisterShiftEntry.decodes {pattern : BitVec 4} {row : Register → Register → Instr} {op : ShiftOperation}
    {sample f : Field} (hentry : RegisterShiftEntry pattern row op sample) (hf : f.extractLsb' 4 4 = pattern) :
    decodeShifter false f = row ⟨f.extractLsb' 8 4⟩ ⟨f.extractLsb' 0 4⟩ ∧
    ShifterOperand.fromRegisterOperand f
      = .ok (.shift op ⟨f.extractLsb' 0 4⟩ (.register ⟨f.extractLsb' 8 4⟩)) := by
  subst hf
  obtain ⟨hbit4, hbit7, hrow, hop, -⟩ := hentry
  rw [operationCode_of_pattern (by decide)] at hrow hop
  have h4 : f.getLsbD 4 = true := by simpa using hbit4
  have h7 : f.getLsbD 7 = false := by simpa using hbit7
  rw [decodeShifter_of_register h4 h7, ShifterOperand.fromRegisterOperand_of_register h4 h7, hrow, hop]
  exact ⟨rfl, rfl⟩

/-- An entry's fields are decoded and its row executed as its rule says. -/
theorem RegisterShiftEntry.meets_rule {pattern : BitVec 4} {row : Register → Register → Instr} {op : ShiftOperation}
    {sample : Field} (hentry : RegisterShiftEntry pattern row op sample) :
    (∀ amountRegister source (s : State), exec (row amountRegister source) s = .next { s with observed := s.observed ++
      [.shifter (.ok (.shift op source (.register amountRegister)))] }) ∧
    (∀ (cfg : Config) (f : Field), f.extractLsb' 4 4 = pattern →
      decode cfg (.shifter false f) = row ⟨f.extractLsb' 8 4⟩ ⟨f.extractLsb' 0 4⟩ ∧
      ShifterOperand.fromRegisterOperand f
        = .ok (.shift op ⟨f.extractLsb' 0 4⟩ (.register ⟨f.extractLsb' 8 4⟩))) ∧
    ShifterOperand.fromRegisterOperand sample = .ok (.shift op ⟨5⟩ (.register ⟨12⟩)) := by
  have ⟨_, _, hrow, hop, hsample, hamount, hsource⟩ := hentry
  refine ⟨fun amountRegister source s => ?result, fun cfg f hf => hentry.decodes hf, ?sample⟩
  case result =>
    rw [← hrow, exec_rowOfRegisterShift, hop, registerShiftRow_eq]
    rfl
  case sample => rw [(hentry.decodes hsample).2, hamount, hsource]

/-- Settles O20: each of the rules R92 to R95 prints an entry of the model's tables. -/
theorem registerShiftRows : Obligations.RegisterShiftRows := by
  intro r hr
  apply RegisterShiftEntry.meets_rule
  simp only [List.mem_cons, List.not_mem_nil, or_false] at hr
  rcases hr with rfl | rfl | rfl | rfl
  all_goals exact ⟨rfl, rfl, rfl, rfl, rfl, rfl, rfl⟩

/-- Settles O21: the immediate flag selects the immediate row for every field, and without it the pattern of R85 is the
condition of the error. -/
theorem immediateAndInvalidShifterRows : Obligations.ImmediateAndInvalidShifterRows := by
  refine ⟨fun value rotate s => rfl, fun cfg f => ⟨?immediateRow, ?immediateFields⟩, ?immediateExample,
    fun payload s => rfl, fun cfg f hf => ?invalid, fun f e he => ?onlyInvalid, ?invalidExample⟩
  case immediateRow => exact decodeShifter_true f
  case immediateFields => exact ShifterOperand.fromImmediate_eq_extract f
  case immediateExample => decide
  case invalid =>
    obtain ⟨h4, h7⟩ := matches_invalidField_iff.mp hf
    exact ⟨decodeShifter_of_invalid h4 h7, ShifterOperand.fromRegisterOperand_of_invalid h4 h7⟩
  case onlyInvalid =>
    obtain ⟨h4, h7, -⟩ := ShifterOperand.fromRegisterOperand_err_iff.mp he
    exact matches_invalidField_iff.mpr ⟨h4, h7⟩
  case invalidExample => exact ShifterOperand.fromRegisterOperand_of_invalid rfl rfl

/-- R15: the port `iw` carries a value only while a word is presented. -/
theorem State.iw_eq_some_iff {s : State} {iw : Word} : s.iw = some iw ↔ ∃ decoder, s.driven = some (.word decoder iw) := by
  unfold State.iw
  split
  case h_1 decoder w hdriven => simp [hdriven]
  case h_2 hother =>
    constructor
    · intro h
      cases h
    · rintro ⟨decoder, hdriven⟩
      exact absurd hdriven (hother decoder iw)

/-- R96, R120: with a word driven, the sub-block is driven by its bits 25 and 15:0. -/
theorem State.outputs_so_of_iw {s : State} {iw : Word} (h : s.iw = some iw) :
    s.outputs.so = some (ShifterOperand.decode (iw.getLsbD 25) (iw.extractLsb' 0 16)) := by
  obtain ⟨decoder, hdriven⟩ := State.iw_eq_some_iff.mp h
  have hin : s.shifterIn = some (iw.getLsbD 25, iw.extractLsb' 0 16) := by
    simp [State.shifterIn, hdriven, isFlagSet_eq_getLsbD, getBits_eq_extract]
  simp [State.outputs, hin]

/-- Settles O29: a field's case is read off its bits 4 and 7, and the port `iw` drives the sub-block. -/
theorem theShifterFieldsFallInThreeCases : Obligations.TheShifterFieldsFallInThreeCases := by
  refine ⟨fun f => ⟨?literal, ?register, ?invalid, ?onlyInvalid, ?immediate, ?shifted⟩, ?literalExample, rfl, rfl, rfl,
    rfl, ?driven⟩
  case literal => exact ShifterOperand.fromRegisterOperand_of_literal
  case register => exact ShifterOperand.fromRegisterOperand_of_register
  case invalid => exact ShifterOperand.fromRegisterOperand_of_invalid
  case onlyInvalid => exact fun e he => ShifterOperand.fromRegisterOperand_err_iff.mp he
  case immediate => rw [ShifterOperand.decode_true, ShifterOperand.fromImmediate_eq_extract]
  case shifted => exact ShifterOperand.decode_false f
  case literalExample => exact ShifterOperand.fromRegisterOperand_of_literal rfl
  case driven => exact fun s iw h => State.outputs_so_of_iw h

end Sys2Proof.Machine
end

section
/-! Settles O27, the statement of 43_data_processing.md: the record of a data word around its second operand (R120), and
the second operand of the word's low sixteen bits (R96). -/

namespace Sys2Proof

/-- R37: the fields of a data word as its slices. -/
theorem dataFieldsOf_eq_extract (iw : Word) :
    dataFieldsOf iw = ⟨iw.getLsbD 25, iw.getLsbD 20, ⟨iw.extractLsb' 16 4⟩, ⟨iw.extractLsb' 12 4⟩,
      iw.extractLsb' 0 16⟩ := by
  simp only [dataFieldsOf, isFlagSet_eq_getLsbD, getRegister_eq_extract, getBits_eq_extract]

/-- R120: a data word is decoded exactly when its second operand is, and its other fields are read off the word. -/
theorem DataInstruction.fromBits_ok_iff {iw : Word} {r : DataInstruction} :
    DataInstruction.fromBits iw = .ok r ↔
      ∃ operand2, ShifterOperand.decode (iw.getLsbD 25) (iw.extractLsb' 0 16) = .ok operand2 ∧
        r = ⟨⟨iw.extractLsb' 16 4⟩, operand2, ⟨iw.extractLsb' 12 4⟩, DataOpcode.fromBits (iw.extractLsb' 21 4),
          iw.getLsbD 20⟩ := by
  rw [← Machine.dataResult_dataFieldsOf, Machine.dataResult_ok_iff, dataFieldsOf_eq_extract, getBits_eq_extract]

section WordCases

variable {iw : Word}

/-- R80, R96: the second operand of a word with the immediate flag. -/
theorem ShifterOperand.decode_word_of_immediate (h25 : iw.getLsbD 25 = true) :
    ShifterOperand.decode (iw.getLsbD 25) (iw.extractLsb' 0 16)
      = .ok (.immediate (iw.extractLsb' 0 8) (iw.extractLsb' 8 4)) := by
  rw [h25, decode_true, fromImmediate_eq_extract, extract_extract iw (by decide), extract_extract iw (by decide)]

/-- R83, R96: the second operand of a word with a literal shift. -/
theorem ShifterOperand.decode_word_of_literal (h25 : iw.getLsbD 25 = false) (h4 : iw.getLsbD 4 = false) :
    ShifterOperand.decode (iw.getLsbD 25) (iw.extractLsb' 0 16)
      = .ok (.shift (ShiftOperation.fromCode (iw.extractLsb' 5 2)) ⟨iw.extractLsb' 0 4⟩
          (.value ((iw.extractLsb' 7 4).setWidth 5))) := by
  have hf4 : (iw.extractLsb' 0 16).getLsbD 4 = false := by simpa using h4
  rw [h25, decode_false, fromRegisterOperand_of_literal hf4, extract_extract iw (by decide),
    extract_extract iw (by decide), extract_extract iw (by decide)]
  rfl

/-- R84, R96: the second operand of a word with a register shift. -/
theorem ShifterOperand.decode_word_of_register (h25 : iw.getLsbD 25 = false) (h4 : iw.getLsbD 4 = true)
    (h7 : iw.getLsbD 7 = false) :
    ShifterOperand.decode (iw.getLsbD 25) (iw.extractLsb' 0 16)
      = .ok (.shift (ShiftOperation.fromCode (iw.extractLsb' 5 2)) ⟨iw.extractLsb' 0 4⟩
          (.register ⟨iw.extractLsb' 8 4⟩)) := by
  have hf4 : (iw.extractLsb' 0 16).getLsbD 4 = true := by simpa using h4
  have hf7 : (iw.extractLsb' 0 16).getLsbD 7 = false := by simpa using h7
  rw [h25, decode_false, fromRegisterOperand_of_register hf4 hf7, extract_extract iw (by decide),
    extract_extract iw (by decide), extract_extract iw (by decide)]

end WordCases

/-- Settles O27: in each of the four cases the second operand, or its error, decides the result; then the examples of
R120 and R121. -/
theorem theDataInstructionDecoderFollowsItsFieldMap : Obligations.TheDataInstructionDecoderFollowsItsFieldMap := by
  refine ⟨fun iw => ⟨fun h25 => ?immediate, fun h25 h4 => ?literal, fun h25 h4 h7 => ?register,
    fun h25 h4 h7 => ?invalid⟩, ?okExample, ?errExample⟩
  case immediate =>
    exact DataInstruction.fromBits_ok_iff.mpr ⟨_, ShifterOperand.decode_word_of_immediate h25, rfl⟩
  case literal =>
    exact DataInstruction.fromBits_ok_iff.mpr ⟨_, ShifterOperand.decode_word_of_literal h25 h4, rfl⟩
  case register =>
    exact DataInstruction.fromBits_ok_iff.mpr ⟨_, ShifterOperand.decode_word_of_register h25 h4 h7, rfl⟩
  case invalid => exact DataInstruction.fromBits_err_iff.mpr ⟨h25, h4, h7, rfl⟩
  case okExample => exact DataInstruction.fromBits_ok_iff.mpr ⟨_, ShifterOperand.decode_word_of_literal rfl rfl, rfl⟩
  case errExample => exact DataInstruction.fromBits_err_iff.mpr ⟨rfl, rfl, rfl, rfl⟩

end Sys2Proof
end

section
/-! Settles O22, the statement of 44_multiply.md: the decoder's record and the table's row of a word as its slices, with the
three flags read off bits 23:21, and what each of the eight rules prints as an entry of the table. -/

namespace Sys2Proof

/-- R39: the fields of a multiply word as its slices. -/
theorem mulFieldsOf_eq_extract (iw : Word) :
    mulFieldsOf iw = ⟨iw.getLsbD 20, ⟨iw.extractLsb' 16 4⟩, ⟨iw.extractLsb' 12 4⟩, ⟨iw.extractLsb' 8 4⟩,
      ⟨iw.extractLsb' 0 4⟩⟩ := by
  simp only [mulFieldsOf, isFlagSet_eq_getLsbD, getRegister_eq_extract]

/-- R130: the record of a multiply word as its bits and slices. -/
theorem Multiply.fromBits_eq_extract (iw : Word) :
    Multiply.fromBits iw =
      { long := iw.getLsbD 23, signed := iw.getLsbD 22, accumulate := iw.getLsbD 21,
        setConditionCodes := iw.getLsbD 20, destination := ⟨iw.extractLsb' 16 4⟩, operand1 := ⟨iw.extractLsb' 12 4⟩,
        operand2 := ⟨iw.extractLsb' 8 4⟩, operand3 := ⟨iw.extractLsb' 0 4⟩ } := by
  simp only [Multiply.fromBits, isFlagSet_eq_getLsbD, getRegister_eq_extract]

/-- R39, R49: bits 23:21 select the row of a multiply word. -/
theorem decodeMultiply_eq (iw : Word) :
    decodeMultiply iw = rowOfMultiplyFlags (iw.extractLsb' 21 3) (mulFieldsOf iw) := by
  rw [decodeMultiply, getBits_eq_extract]

end Sys2Proof

namespace Sys2Proof.Machine

/-- What a rule R131 to R138 prints agrees with the model's table: its three flags select its row, and its example shows
those flags and the fields the rule lists. -/
abbrev MultiplyEntry (flags : BitVec 3) (row : MulFields → Instr) (sample : Word) (fields : MulFields) : Prop :=
  rowOfMultiplyFlags flags = row ∧ sample.extractLsb' 21 3 = flags ∧ mulFieldsOf sample = fields

/-- A word that shows an entry's flags is decoded to the entry's row. -/
theorem MultiplyEntry.decodes {flags : BitVec 3} {row : MulFields → Instr} {sample iw : Word} {fields : MulFields}
    (hentry : MultiplyEntry flags row sample fields) (hiw : iw.extractLsb' 21 3 = flags) (cfg : Config) :
    decode cfg (.word .multiply iw) = row (mulFieldsOf iw) := by
  obtain ⟨hrow, -, -⟩ := hentry
  calc decode cfg (.word .multiply iw)
      _ = rowOfMultiplyFlags (iw.extractLsb' 21 3) (mulFieldsOf iw) := decodeMultiply_eq iw
      _ = row (mulFieldsOf iw) := by rw [hiw, hrow]

/-- An entry's words are decoded and its row executed as its rule says. -/
theorem MultiplyEntry.meets_rule {flags : BitVec 3} {row : MulFields → Instr} {sample : Word} {fields : MulFields}
    (hentry : MultiplyEntry flags row sample fields) :
    (∀ (m : MulFields) (s : State), exec (row m) s = .next { s with observed := s.observed ++ [.multiply
      { long := flags.getLsbD 2, signed := flags.getLsbD 1, accumulate := flags.getLsbD 0,
        setConditionCodes := m.setConditionCodes, operand1 := m.operand1, operand2 := m.operand2,
        operand3 := m.operand3, destination := m.destination }] }) ∧
    (∀ (cfg : Config) (iw : Word), iw.extractLsb' 21 3 = flags →
      decode cfg (.word .multiply iw) = row
        { setConditionCodes := iw.getLsbD 20, destination := ⟨iw.extractLsb' 16 4⟩, operand1 := ⟨iw.extractLsb' 12 4⟩,
          operand2 := ⟨iw.extractLsb' 8 4⟩, operand3 := ⟨iw.extractLsb' 0 4⟩ } ∧
      Multiply.fromBits iw =
        { long := flags.getLsbD 2, signed := flags.getLsbD 1, accumulate := flags.getLsbD 0,
          setConditionCodes := iw.getLsbD 20, destination := ⟨iw.extractLsb' 16 4⟩, operand1 := ⟨iw.extractLsb' 12 4⟩,
          operand2 := ⟨iw.extractLsb' 8 4⟩, operand3 := ⟨iw.extractLsb' 0 4⟩ }) ∧
    (∀ cfg : Config, decode cfg (.word .multiply sample) = row fields) := by
  have ⟨hrow, hflags, hfields⟩ := hentry
  refine ⟨fun m s => ?result, fun cfg iw hiw => ⟨?row, ?function⟩, fun cfg => ?sample⟩
  case result =>
    rw [← hrow, exec_rowOfMultiplyFlags, multiplyRow_eq]
    rfl
  case row => rw [hentry.decodes hiw, mulFieldsOf_eq_extract]
  case function =>
    rw [Multiply.fromBits_eq_extract, ← hiw]
    simp
  case sample => rw [hentry.decodes hflags, hfields]

/-- Settles O22: each of the rules R131 to R138 prints an entry of the model's table. -/
theorem multiplyRows : Obligations.MultiplyRows := by
  intro r hr
  apply MultiplyEntry.meets_rule
  simp only [List.mem_cons, List.not_mem_nil, or_false] at hr
  rcases hr with rfl | rfl | rfl | rfl | rfl | rfl | rfl | rfl
  all_goals exact ⟨rfl, rfl, rfl⟩

end Sys2Proof.Machine
end

section
/-! Settles O23, the statement of 45_swap.md: bit 22 selects a swap word's row and size (R150), and whichever it selects,
the row and the decoder function give one record of the word's three register slices. -/

namespace Sys2Proof

/-- R40, R49: the row of the size flag (bit 22). -/
def rowOfSwapFlag : Bool → SwapFields → Instr
  | false => .swpWord
  | true => .swpByte

/-- R150: the size of the size flag. -/
def SwapSize.ofFlag : Bool → SwapSize
  | false => .word
  | true => .byte

/-- R40: the fields of a swap word as its slices. -/
theorem swapFieldsOf_eq_extract (iw : Word) :
    swapFieldsOf iw = ⟨⟨iw.extractLsb' 16 4⟩, ⟨iw.extractLsb' 12 4⟩, ⟨iw.extractLsb' 0 4⟩⟩ := by
  simp only [swapFieldsOf, getRegister_eq_extract]

/-- R40, R49: bit 22 selects the row of a swap word. -/
theorem decodeSwap_eq (iw : Word) : decodeSwap iw = rowOfSwapFlag (iw.getLsbD 22) (swapFieldsOf iw) := by
  rw [decodeSwap, isFlagSet_eq_getLsbD]
  cases iw.getLsbD 22 <;> rfl

/-- R150: the record of a swap word as its slices and the size of its bit 22. -/
theorem Swap.fromBits_eq_extract (iw : Word) :
    Swap.fromBits iw =
      { source := ⟨iw.extractLsb' 0 4⟩, destination := ⟨iw.extractLsb' 12 4⟩, base := ⟨iw.extractLsb' 16 4⟩,
        size := SwapSize.ofFlag (iw.getLsbD 22) } := by
  simp only [Swap.fromBits, isFlagSet_eq_getLsbD, getRegister_eq_extract]
  cases iw.getLsbD 22 <;> rfl

end Sys2Proof

namespace Sys2Proof.Machine

/-- R151, R152: the row a size flag selects is the swap row of that flag's size. -/
theorem exec_rowOfSwapFlag (flag : Bool) (w : SwapFields) (s : State) :
    exec (rowOfSwapFlag flag w) s = swapRow (SwapSize.ofFlag flag) w s := by
  cases flag <;> rfl

/-- What a rule R151 or R152 prints agrees with the model: the size flag selects its row and size, and its example shows
that flag with base 2, destination 0 and source 1. -/
abbrev SwapEntry (flag : Bool) (row : SwapFields → Instr) (size : SwapSize) (sample : Word) : Prop :=
  rowOfSwapFlag flag = row ∧ SwapSize.ofFlag flag = size ∧ sample.getLsbD 22 = flag ∧
    sample.extractLsb' 16 4 = 2 ∧ sample.extractLsb' 12 4 = 0 ∧ sample.extractLsb' 0 4 = 1

/-- An entry's words are decoded and its row executed as its rule says. -/
theorem SwapEntry.meets_rule {flag : Bool} {row : SwapFields → Instr} {size : SwapSize} {sample : Word}
    (hentry : SwapEntry flag row size sample) :
    (∀ (w : SwapFields) (s : State), exec (row w) s = .next { s with observed := s.observed ++ [.swap
      { source := w.source, destination := w.destination, base := w.base, size }] }) ∧
    (∀ (cfg : Config) (iw : Word), iw.getLsbD 22 = flag →
      decode cfg (.word .swap iw) = row
        { base := ⟨iw.extractLsb' 16 4⟩, destination := ⟨iw.extractLsb' 12 4⟩, source := ⟨iw.extractLsb' 0 4⟩ } ∧
      Swap.fromBits iw =
        { source := ⟨iw.extractLsb' 0 4⟩, destination := ⟨iw.extractLsb' 12 4⟩, base := ⟨iw.extractLsb' 16 4⟩,
          size }) ∧
    Swap.fromBits sample = { source := ⟨1⟩, destination := ⟨0⟩, base := ⟨2⟩, size } := by
  obtain ⟨hrow, hsize, hflag, hbase, hdestination, hsource⟩ := hentry
  refine ⟨fun w s => ?result, fun cfg iw hiw => ⟨?row, ?function⟩, ?sample⟩
  case result =>
    rw [← hrow, exec_rowOfSwapFlag, hsize, swapRow_eq]
    rfl
  case row =>
    calc decode cfg (.word .swap iw)
        _ = rowOfSwapFlag (iw.getLsbD 22) (swapFieldsOf iw) := decodeSwap_eq iw
        _ = row _ := by rw [hiw, hrow, swapFieldsOf_eq_extract]
  case function => rw [Swap.fromBits_eq_extract, hiw, hsize]
  case sample => rw [Swap.fromBits_eq_extract, hflag, hsize, hbase, hdestination, hsource]

/-- Settles O23: each of the rules R151 and R152 prints an entry of the model. -/
theorem swapRows : Obligations.SwapRows := by
  intro r hr
  apply SwapEntry.meets_rule
  simp only [List.mem_cons, List.not_mem_nil, or_false] at hr
  rcases hr with rfl | rfl
  all_goals exact ⟨rfl, rfl, rfl, rfl, rfl, rfl⟩

end Sys2Proof.Machine
end

section
/-! Settles O24 and O25, the statements of 46_branch.md: a branch-and-exchange word is its bits 3:0 (R160); bit 24 selects
a branch word's row and link flag, and whichever it selects, the row and the decoder function give one record of the
sign-extended bits 23:0 (R162). -/

namespace Sys2Proof

/-- R160: the result of a branch-and-exchange word as its slice. -/
theorem Branch.fromBitsBx_eq_extract (iw : Word) : Branch.fromBitsBx iw = .branchAndExchange ⟨iw.extractLsb' 0 4⟩ := by
  rw [fromBitsBx, getRegister_eq_extract]

/-- R41: the row of a branch-and-exchange word. -/
theorem decodeBranchExchange_eq_extract (iw : Word) : decodeBranchExchange iw = .bx ⟨iw.extractLsb' 0 4⟩ := by
  rw [decodeBranchExchange, getRegister_eq_extract]

/-- R42, R49: the row of the link flag (bit 24). -/
def rowOfLinkFlag : Bool → BitVec 24 → Instr
  | false => .b
  | true => .bl

/-- R42, R49: bit 24 selects the row of a branch word. -/
theorem decodeBranch_eq (iw : Word) : decodeBranch iw = rowOfLinkFlag (iw.getLsbD 24) (iw.extractLsb' 0 24) := by
  rw [decodeBranch, isFlagSet_eq_getLsbD, getBits_eq_extract]
  cases iw.getLsbD 24 <;> rfl

/-- R162: the result of a branch word as its slice and its bit 24. -/
theorem Branch.fromBitsBranch_eq_extract (iw : Word) :
    Branch.fromBitsBranch iw = .branch ((iw.extractLsb' 0 24).signExtend 32) (iw.getLsbD 24) := by
  rw [fromBitsBranch, isFlagSet_eq_getLsbD, getBits_eq_extract, branchOffset]

end Sys2Proof

namespace Sys2Proof.Machine

/-- Settles O24: the row and the decoder function give the register of bits 3:0, and so nothing else of the word counts. -/
theorem theBranchExchangeRow : Obligations.TheBranchExchangeRow := by
  refine ⟨fun register s => rfl, fun cfg iw => ⟨?row, ?function⟩, fun a b hlow => ?lowBitsDecide, ?sample⟩
  case row => exact decodeBranchExchange_eq_extract iw
  case function => exact Branch.fromBitsBx_eq_extract iw
  case lowBitsDecide => rw [Branch.fromBitsBx_eq_extract, Branch.fromBitsBx_eq_extract, hlow]
  case sample => exact Branch.fromBitsBx_eq_extract _

/-- R165, R166: the row a link flag selects is the branch row of that flag. -/
theorem exec_rowOfLinkFlag (link : Bool) (raw : BitVec 24) (s : State) :
    exec (rowOfLinkFlag link raw) s = branchRow link raw s := by
  cases link <;> rfl

/-- What a rule R165 or R166 prints agrees with the model: the link flag selects its row, and its example shows that flag
and a field of the printed signed value. -/
abbrev BranchEntry (link : Bool) (row : BitVec 24 → Instr) (sample : Word) (offset : Int) : Prop :=
  rowOfLinkFlag link = row ∧ sample.getLsbD 24 = link ∧ (sample.extractLsb' 0 24).signExtend 32 = BitVec.ofInt 32 offset

/-- An entry's words are decoded and its row executed as its rule says. -/
theorem BranchEntry.meets_rule {link : Bool} {row : BitVec 24 → Instr} {sample : Word} {offset : Int}
    (hentry : BranchEntry link row sample offset) :
    (∀ (raw : BitVec 24) (s : State), exec (row raw) s = .next { s with observed := s.observed ++
      [.branch (.branch (raw.signExtend 32) link)] }) ∧
    (∀ (cfg : Config) (iw : Word), iw.getLsbD 24 = link →
      decode cfg (.word .branch iw) = row (iw.extractLsb' 0 24) ∧
      Branch.fromBitsBranch iw = .branch ((iw.extractLsb' 0 24).signExtend 32) link) ∧
    Branch.fromBitsBranch sample = .branch (BitVec.ofInt 32 offset) link := by
  obtain ⟨hrow, hlink, hoffset⟩ := hentry
  refine ⟨fun raw s => ?result, fun cfg iw hiw => ⟨?row, ?function⟩, ?sample⟩
  case result =>
    rw [← hrow, exec_rowOfLinkFlag, branchRow_eq]
    rfl
  case row =>
    calc decode cfg (.word .branch iw)
        _ = rowOfLinkFlag (iw.getLsbD 24) (iw.extractLsb' 0 24) := decodeBranch_eq iw
        _ = row (iw.extractLsb' 0 24) := by rw [hiw, hrow]
  case function => rw [Branch.fromBitsBranch_eq_extract, hiw]
  case sample => rw [Branch.fromBitsBranch_eq_extract, hlink, hoffset]

/-- Settles O25: each of the rules R165 and R166 prints an entry of the model; then the two examples of R162. -/
theorem theBranchRows : Obligations.TheBranchRows := by
  intro r hr
  have hentry : BranchEntry r.1 r.2.1 r.2.2.1 r.2.2.2 := by
    simp only [List.mem_cons, List.not_mem_nil, or_false] at hr
    rcases hr with rfl | rfl
    all_goals exact ⟨rfl, rfl, rfl⟩
  obtain ⟨hresult, hdecode, hsample⟩ := hentry.meets_rule
  refine ⟨hresult, hdecode, hsample, ?allOnes, ?unscaled⟩
  case allOnes => exact Branch.fromBitsBranch_eq_extract _
  case unscaled => exact Branch.fromBitsBranch_eq_extract _

end Sys2Proof.Machine
end

section
/-! Fields and masks: a field placed in a word and read back, and a mask as the slices it keeps. -/

namespace Sys2Proof

section Place

variable {W n : Nat}

theorem place_getLsbD (x : BitVec n) (o i : Nat) :
    (place W x o).getLsbD i = (decide (i < W) && decide (o ≤ i) && x.getLsbD (i - o)) := by
  rw [place, BitVec.getLsbD_shiftLeft, BitVec.getLsbD_setWidth]
  by_cases hi : i < W
  · have hio : i - o < W := by omega
    by_cases ho : i < o
    · simp [ho, Nat.not_le.mpr ho]
    · simp [hi, hio, ho, Nat.not_lt.mp ho]
  · simp [hi]

/-- A placed field reads back as itself. -/
@[simp] theorem extract_place_same (x : BitVec n) {o : Nat} (h : o + n ≤ W) : (place W x o).extractLsb' o n = x := by
  apply BitVec.eq_of_getLsbD_eq
  intro i hi
  have hiW : o + i < W := by omega
  simp only [BitVec.getLsbD_extractLsb', place_getLsbD, hi, hiW, Nat.le_add_right, Nat.add_sub_cancel_left, decide_true,
    Bool.true_and]

/-- A placed field shows no bit outside its place. -/
@[simp] theorem extract_place_of_disjoint (x : BitVec n) {o o' l : Nat} (h : o + l ≤ o' ∨ o' + n ≤ o) :
    (place W x o').extractLsb' o l = 0#l := by
  apply BitVec.eq_of_getLsbD_eq
  intro i hi
  simp only [BitVec.getLsbD_extractLsb', place_getLsbD, BitVec.getLsbD_zero]
  rcases h with hbelow | habove
  · have : ¬ o' ≤ o + i := by omega
    simp [this]
  · rw [BitVec.getLsbD_of_ge x _ (by omega)]
    simp

/-- The low part of a word holds the field at the same place. -/
theorem extract_place_of_low (x : BitVec n) {o l : Nat} (h : l ≤ W) :
    (place W x o).extractLsb' 0 l = place l x o := by
  apply BitVec.eq_of_getLsbD_eq
  intro i hi
  have hiW : i < W := by omega
  simp only [BitVec.getLsbD_extractLsb', place_getLsbD, hi, hiW, Nat.zero_add, decide_true, Bool.true_and]

@[simp] theorem place_getElem_ofBool (b : Bool) {o : Nat} (h : o < W) : (place W (BitVec.ofBool b) o)[o] = b := by
  simp only [← BitVec.getLsbD_eq_getElem, place_getLsbD, h, Nat.le_refl, Nat.sub_self, BitVec.getLsbD_ofBool, decide_true,
    Bool.true_and]

@[simp] theorem place_getElem_of_disjoint (x : BitVec n) {o i : Nat} (hi : i < W) (h : i < o ∨ o + n ≤ i) :
    (place W x o)[i] = false := by
  rw [← BitVec.getLsbD_eq_getElem, place_getLsbD]
  rcases h with hbelow | habove
  · have : ¬ o ≤ i := by omega
    simp [this]
  · rw [BitVec.getLsbD_of_ge x _ (by omega)]
    simp

theorem place_injective {x y : BitVec n} {o : Nat} (h : o + n ≤ W) : place W x o = place W y o ↔ x = y := by
  constructor
  · intro hxy
    rw [← extract_place_same x h, hxy, extract_place_same y h]
  · exact fun hxy => congrArg (place W · o) hxy

end Place

/-- The mask that keeps the `l` bits at offset `o`. -/
abbrev fieldMask (W o l : Nat) : BitVec W := place W (BitVec.allOnes l) o

/-- A slice put back at its place is the word under the slice's mask. -/
theorem place_extract {W : Nat} (w : BitVec W) (o l : Nat) : place W (w.extractLsb' o l) o = w &&& fieldMask W o l := by
  apply BitVec.eq_of_getLsbD_eq
  intro i hi
  simp only [place_getLsbD, BitVec.getLsbD_extractLsb', BitVec.getLsbD_and, BitVec.getLsbD_allOnes, hi]
  by_cases ho : o ≤ i
  · simp [ho, Bool.and_comm]
  · simp [ho]

theorem ofBool_getLsbD_eq_extract {W : Nat} (w : BitVec W) (o : Nat) :
    BitVec.ofBool (w.getLsbD o) = w.extractLsb' o 1 := by
  apply BitVec.eq_of_getLsbD_eq
  intro i hi
  obtain rfl : i = 0 := by omega
  simp

/-- Two words agree under the mask of a field exactly when they have the same field. -/
theorem and_fieldMask_eq_iff {W : Nat} {a b : BitVec W} {o l : Nat} (h : o + l ≤ W) :
    a &&& fieldMask W o l = b &&& fieldMask W o l ↔ a.extractLsb' o l = b.extractLsb' o l := by
  rw [← place_extract, ← place_extract, place_injective h]

/-- Two words agree under a joint mask exactly when they agree under each part. -/
theorem and_or_eq_iff {W : Nat} {a b m n : BitVec W} :
    a &&& (m ||| n) = b &&& (m ||| n) ↔ a &&& m = b &&& m ∧ a &&& n = b &&& n := by
  simp only [and_eq_and_iff, BitVec.getLsbD_or, Bool.or_eq_true]
  constructor
  · exact fun h => ⟨fun i hi => h i (.inl hi), fun i hi => h i (.inr hi)⟩
  · rintro ⟨hm, hn⟩ i (hi | hi)
    · exact hm i hi
    · exact hn i hi

section Agree

variable {W : Nat} {a b mask : BitVec W} (hmask : a &&& mask = b &&& mask)
include hmask

/-- Words that agree under a mask have every field the mask keeps whole in common. -/
theorem extract_eq_of_and_eq {o l : Nat} (hfield : mask.extractLsb' o l = BitVec.allOnes l) :
    a.extractLsb' o l = b.extractLsb' o l := by
  have hslice := congrArg (·.extractLsb' o l) hmask
  simpa only [BitVec.extractLsb'_and, hfield, BitVec.and_allOnes] using hslice

theorem getLsbD_eq_of_and_eq {i : Nat} (hbit : mask.getLsbD i = true) : a.getLsbD i = b.getLsbD i :=
  (and_eq_and_iff a b mask).mp hmask i hbit

end Agree

/-- A word shows a field's value under the field's mask exactly when its slice is that value; on the bits as a number,
as the opcode table prints them (R49). -/
theorem toNat_and_fieldMask_eq_iff {W n : Nat} {w : BitVec W} {x : BitVec n} {o : Nat} (h : o + n ≤ W) :
    w.toNat &&& (fieldMask W o n).toNat = (place W x o).toNat ↔ w.extractLsb' o n = x := by
  rw [← BitVec.toNat_and, BitVec.toNat_inj, ← place_extract, place_injective h]

end Sys2Proof
end

section
/-! Each row of the opcode table by its format and the code that selects it (R49), and what the encoder and the masks say of
it: the case split over the 55 instructions that the statements about all rows use. -/

namespace Sys2Proof

/-- R49: every instruction is a row of its format, selected by a code. -/
theorem Instr.format_cases {motive : Instr → Prop}
    (condition : ∀ code, motive (decodeCondition code))
    (data : ∀ code d, motive (rowOfDataCode code d))
    (immediate : ∀ value rotate, motive (.shImm value rotate))
    (literalShift : ∀ code amount source, motive (rowOfLiteralShift code amount source))
    (registerShift : ∀ code amountRegister source, motive (rowOfRegisterShift code amountRegister source))
    (invalid : ∀ payload, motive (.shInvalid payload))
    (multiply : ∀ flags m, motive (rowOfMultiplyFlags flags m))
    (swap : ∀ flag w, motive (rowOfSwapFlag flag w))
    (branchExchange : ∀ register, motive (.bx register))
    (branch : ∀ link offset, motive (rowOfLinkFlag link offset)) : ∀ i, motive i
  | .condEq => condition 0
  | .condNe => condition 1
  | .condCs => condition 2
  | .condCc => condition 3
  | .condMi => condition 4
  | .condPl => condition 5
  | .condVs => condition 6
  | .condVc => condition 7
  | .condHi => condition 8
  | .condLs => condition 9
  | .condGe => condition 10
  | .condLt => condition 11
  | .condGt => condition 12
  | .condLe => condition 13
  | .condAl => condition 14
  | .condNv => condition 15
  | .dpAnd d => data 0 d
  | .dpEor d => data 1 d
  | .dpSub d => data 2 d
  | .dpRsb d => data 3 d
  | .dpAdd d => data 4 d
  | .dpAdc d => data 5 d
  | .dpSbc d => data 6 d
  | .dpRsc d => data 7 d
  | .dpTst d => data 8 d
  | .dpTeq d => data 9 d
  | .dpCmp d => data 10 d
  | .dpCmn d => data 11 d
  | .dpOrr d => data 12 d
  | .dpMov d => data 13 d
  | .dpBic d => data 14 d
  | .dpMvn d => data 15 d
  | .shImm value rotate => immediate value rotate
  | .shLslLiteral amount source => literalShift 0 amount source
  | .shLsrLiteral amount source => literalShift 1 amount source
  | .shAsrLiteral amount source => literalShift 2 amount source
  | .shRorLiteral amount source => literalShift 3 amount source
  | .shLslRegister amountRegister source => registerShift 0 amountRegister source
  | .shLsrRegister amountRegister source => registerShift 1 amountRegister source
  | .shAsrRegister amountRegister source => registerShift 2 amountRegister source
  | .shRorRegister amountRegister source => registerShift 3 amountRegister source
  | .shInvalid payload => invalid payload
  | .mulMul m => multiply 0 m
  | .mulMla m => multiply 1 m
  | .mulMulSigned m => multiply 2 m
  | .mulMlaSigned m => multiply 3 m
  | .mulUmull m => multiply 4 m
  | .mulUmlal m => multiply 5 m
  | .mulSmull m => multiply 6 m
  | .mulSmlal m => multiply 7 m
  | .swpWord w => swap false w
  | .swpByte w => swap true w
  | .bx register => branchExchange register
  | .b offset => branch false offset
  | .bl offset => branch true offset

/-! ### The selected row: its encoding, its well-formedness and its mask and match -/

theorem decodeCondition_row (code : BitVec 4) :
    encode (decodeCondition code) = .condIn code ∧ (decodeCondition code).wellFormed = true ∧
      (decodeCondition code).row = ⟨.condIn, (fieldMask 4 0 4).toNat, (place 4 code 0).toNat⟩ := by
  rcases code4_cases code with
    rfl | rfl | rfl | rfl | rfl | rfl | rfl | rfl | rfl | rfl | rfl | rfl | rfl | rfl | rfl | rfl
  all_goals exact ⟨rfl, rfl, rfl⟩

theorem rowOfDataCode_row (code : BitVec 4) (d : DataFields) :
    encode (rowOfDataCode code d) = encodeData code d ∧ (rowOfDataCode code d).wellFormed = d.wellFormed ∧
      (rowOfDataCode code d).row = ⟨.iw .dataInstruction, (fieldMask 32 21 4).toNat, (place 32 code 21).toNat⟩ := by
  rcases code4_cases code with
    rfl | rfl | rfl | rfl | rfl | rfl | rfl | rfl | rfl | rfl | rfl | rfl | rfl | rfl | rfl | rfl
  all_goals exact ⟨rfl, rfl, rfl⟩

theorem rowOfLiteralShift_row (code : BitVec 2) (amount : BitVec 4) (source : Register) :
    encode (rowOfLiteralShift code amount source) = encodeLiteralShift code amount source ∧
      (rowOfLiteralShift code amount source).wellFormed = true ∧
      (rowOfLiteralShift code amount source).row = ⟨.shifter, 65536 + (fieldMask 16 4 3).toNat,
        (place 16 (code ++ 0#1) 4).toNat⟩ := by
  rcases code2_cases code with rfl | rfl | rfl | rfl
  all_goals exact ⟨rfl, rfl, rfl⟩

theorem rowOfRegisterShift_row (code : BitVec 2) (amountRegister source : Register) :
    encode (rowOfRegisterShift code amountRegister source) = encodeRegisterShift code amountRegister source ∧
      (rowOfRegisterShift code amountRegister source).wellFormed = true ∧
      (rowOfRegisterShift code amountRegister source).row = ⟨.shifter, 65536 + (fieldMask 16 4 4).toNat,
        (place 16 (0#1 ++ code ++ 1#1) 4).toNat⟩ := by
  rcases code2_cases code with rfl | rfl | rfl | rfl
  all_goals exact ⟨rfl, rfl, rfl⟩

theorem rowOfMultiplyFlags_row (flags : BitVec 3) (m : MulFields) :
    encode (rowOfMultiplyFlags flags m) = encodeMultiply flags m ∧ (rowOfMultiplyFlags flags m).wellFormed = true ∧
      (rowOfMultiplyFlags flags m).row = ⟨.iw .multiply, (fieldMask 32 21 3).toNat, (place 32 flags 21).toNat⟩ := by
  rcases code3_cases flags with rfl | rfl | rfl | rfl | rfl | rfl | rfl | rfl
  all_goals exact ⟨rfl, rfl, rfl⟩

theorem rowOfSwapFlag_row (flag : Bool) (w : SwapFields) :
    encode (rowOfSwapFlag flag w) = encodeSwap (BitVec.ofBool flag) w ∧ (rowOfSwapFlag flag w).wellFormed = true ∧
      (rowOfSwapFlag flag w).row
        = ⟨.iw .swap, (fieldMask 32 22 1).toNat, (place 32 (BitVec.ofBool flag) 22).toNat⟩ := by
  cases flag
  all_goals exact ⟨rfl, rfl, rfl⟩

theorem rowOfLinkFlag_row (link : Bool) (offset : BitVec 24) :
    encode (rowOfLinkFlag link offset) = encodeBranch (BitVec.ofBool link) offset ∧
      (rowOfLinkFlag link offset).wellFormed = true ∧
      (rowOfLinkFlag link offset).row
        = ⟨.iw .branch, (fieldMask 32 24 1).toNat, (place 32 (BitVec.ofBool link) 24).toNat⟩ := by
  cases link
  all_goals exact ⟨rfl, rfl, rfl⟩

end Sys2Proof
end

section
/-! Settles O1 to O7, the statements of 30_encoding.md on the decoder and the encoder: format by format, the fields of an
encoded word read back (R37 to R42), and the fields of any word put back are the word without its ignored bits. -/

namespace Sys2Proof

/-! ### Decoding an encoding -/

theorem DataFields.wellFormed_iff {d : DataFields} :
    d.wellFormed = true ↔ d.shifterField.extractLsb' 12 4 = d.destination.index := by
  simp [wellFormed]

/-- R37: a shifter field is its bits 15:12 over its bits 11:0. -/
theorem shifterField_split (f : Field) : place 16 (f.extractLsb' 12 4) 12 ||| place 16 (f.extractLsb' 0 12) 0 = f := by
  rw [place_extract, place_extract, ← BitVec.and_or_distrib_left]
  exact BitVec.and_allOnes

/-- R37: the destination and the low bits of an encoded data word spell the shifter field. -/
theorem decode_encodeData (cfg : Config) (code : BitVec 4) {d : DataFields} (hd : d.wellFormed = true) :
    decode cfg (encodeData code d) = rowOfDataCode code d := by
  simp only [encodeData, decode, decodeData, getBits_eq_extract, dataFieldsOf_eq_extract]
  refine congrArg₂ rowOfDataCode ?code ?fields
  case code => simp [BitVec.extractLsb'_or]
  case fields =>
    have hfield : place 16 d.destination.index 12 ||| place 16 (d.shifterField.extractLsb' 0 12) 0 = d.shifterField := by
      rw [← DataFields.wellFormed_iff.mp hd, shifterField_split]
    simp [BitVec.extractLsb'_or,
      extract_place_of_low d.destination.index (o := 12),
      extract_place_of_low (d.shifterField.extractLsb' 0 12) (o := 0), hfield]

/-- R37. -/
theorem decode_encodeImmediate (cfg : Config) (value : BitVec 8) (rotate : BitVec 4) :
    decode cfg (encodeImmediate value rotate) = .shImm value rotate := by
  simp [encodeImmediate, decode, decodeShifter_true, BitVec.extractLsb'_or]

/-- R38: bit 4 of an encoded literal shift is clear. -/
theorem decode_encodeLiteralShift (cfg : Config) (code : BitVec 2) (amount : BitVec 4) (source : Register) :
    decode cfg (encodeLiteralShift code amount source) = rowOfLiteralShift code amount source := by
  rw [encodeLiteralShift, decode, decodeShifter_of_literal (by simp)]
  simp [BitVec.extractLsb'_or]

/-- R38: bit 4 of an encoded register shift is set, and bit 7 clear. -/
theorem decode_encodeRegisterShift (cfg : Config) (code : BitVec 2) (amountRegister source : Register) :
    decode cfg (encodeRegisterShift code amountRegister source) = rowOfRegisterShift code amountRegister source := by
  rw [encodeRegisterShift, decode, decodeShifter_of_register (by simp [place]) (by simp)]
  simp [BitVec.extractLsb'_or]

theorem decode_encodeMultiply (cfg : Config) (flags : BitVec 3) (m : MulFields) :
    decode cfg (encodeMultiply flags m) = rowOfMultiplyFlags flags m := by
  simp [encodeMultiply, decode, decodeMultiply_eq, mulFieldsOf_eq_extract, BitVec.extractLsb'_or]

theorem decode_encodeSwap (cfg : Config) (flag : Bool) (w : SwapFields) :
    decode cfg (encodeSwap (BitVec.ofBool flag) w) = rowOfSwapFlag flag w := by
  simp [encodeSwap, decode, decodeSwap_eq, swapFieldsOf_eq_extract, BitVec.extractLsb'_or]

theorem decode_encodeBranchExchange (cfg : Config) (register : Register) :
    decode cfg (encodeBranchExchange register) = .bx register := by
  simp [encodeBranchExchange, decode, decodeBranchExchange_eq_extract]

theorem decode_encodeBranch (cfg : Config) (link : Bool) (offset : BitVec 24) :
    decode cfg (encodeBranch (BitVec.ofBool link) offset) = rowOfLinkFlag link offset := by
  simp [encodeBranch, decode, decodeBranch_eq, BitVec.extractLsb'_or]

/-- Settles O1: every instruction is a row of its format, and the fields of the format's encoding read back. -/
theorem decodeOfEncodeIsTheInstruction : Obligations.DecodeOfEncodeIsTheInstruction := by
  intro cfg i hwf
  induction i using Instr.format_cases with
  | condition code => rw [(decodeCondition_row code).1, decode]
  | data code d =>
    obtain ⟨hencode, hwellFormed, -⟩ := rowOfDataCode_row code d
    rw [hencode, decode_encodeData cfg code (hwellFormed ▸ hwf)]
  | immediate value rotate => exact decode_encodeImmediate cfg value rotate
  | literalShift code amount source => rw [(rowOfLiteralShift_row code amount source).1, decode_encodeLiteralShift]
  | registerShift code amountRegister source =>
    rw [(rowOfRegisterShift_row code amountRegister source).1, decode_encodeRegisterShift]
  | invalid payload =>
    have hpayload : payload &&& 0x0090#16 = 0x0090#16 := by simpa [Instr.wellFormed, invalidPayload] using hwf
    obtain ⟨h4, h7⟩ := matches_invalidField_iff.mp hpayload
    exact decodeShifter_of_invalid h4 h7
  | multiply flags m => rw [(rowOfMultiplyFlags_row flags m).1, decode_encodeMultiply]
  | swap flag w => rw [(rowOfSwapFlag_row flag w).1, decode_encodeSwap]
  | branchExchange register => exact decode_encodeBranchExchange cfg register
  | branch link offset => rw [(rowOfLinkFlag_row link offset).1, decode_encodeBranch]

/-! ### Encoding what was decoded -/

/-- R37: the destination that a data word names is the one its shifter field holds. -/
theorem dataFieldsOf_wellFormed (iw : Word) : (dataFieldsOf iw).wellFormed = true := by
  rw [DataFields.wellFormed_iff, dataFieldsOf_eq_extract]
  exact extract_extract iw (by decide)

/-- R85: a field is decoded as invalid only with bits 4 and 7 set. -/
theorem decodeShifter_wellFormed (isImmediate : Bool) (f : Field) : (decodeShifter isImmediate f).wellFormed = true := by
  cases isImmediate
  case true => rw [decodeShifter_true, Instr.wellFormed]
  case false =>
    cases h4 : f.getLsbD 4
    case false => rw [decodeShifter_of_literal h4, (rowOfLiteralShift_row _ _ _).2.1]
    case true =>
      cases h7 : f.getLsbD 7
      case false => rw [decodeShifter_of_register h4 h7, (rowOfRegisterShift_row _ _ _).2.1]
      case true =>
        rw [decodeShifter_of_invalid h4 h7, Instr.wellFormed, invalidPayload, matches_invalidField_iff.mpr ⟨h4, h7⟩]
        rfl

/-- Settles O2: a presentation is decoded to the row its code selects, and only a data row and an invalid field have a
condition to meet. -/
theorem decodedInstructionsAreWellFormed : Obligations.DecodedInstructionsAreWellFormed := by
  intro cfg p
  match p with
  | .condIn code => exact (decodeCondition_row code).2.1
  | .shifter isImmediate f => exact decodeShifter_wellFormed isImmediate f
  | .word .condition iw => exact (decodeCondition_row (tiedCondition cfg iw)).2.1
  | .word .dataInstruction iw => exact (rowOfDataCode_row _ _).2.1.trans (dataFieldsOf_wellFormed iw)
  | .word .multiply iw => exact (rowOfMultiplyFlags_row _ _).2.1
  | .word .swap iw =>
    rw [decode, decodeSwap_eq]
    exact (rowOfSwapFlag_row _ _).2.1
  | .word .branchExchange iw => rfl
  | .word .branch iw =>
    rw [decode, decodeBranch_eq]
    exact (rowOfLinkFlag_row _ _).2.1

/-- R37: bits 31:26 of a data word are ignored. -/
theorem encode_decodeData (iw : Word) : encode (decodeData iw) = .word .dataInstruction (iw &&& 0x03FFFFFF#32) := by
  rw [decodeData, (rowOfDataCode_row _ _).1, getBits_eq_extract, dataFieldsOf_eq_extract, encodeData]
  simp only [ofBool_getLsbD_eq_extract, extract_extract iw (show 0 + 12 ≤ 16 by decide), place_extract,
    ← BitVec.and_or_distrib_left]
  rfl

/-- R39: bits 31:24 and 7:4 of a multiply word are ignored. -/
theorem encode_decodeMultiply (iw : Word) : encode (decodeMultiply iw) = .word .multiply (iw &&& 0x00FFFF0F#32) := by
  rw [decodeMultiply_eq, (rowOfMultiplyFlags_row _ _).1, mulFieldsOf_eq_extract, encodeMultiply]
  simp only [ofBool_getLsbD_eq_extract, place_extract, ← BitVec.and_or_distrib_left]
  rfl

/-- R40: bits 31:23, 21:20 and 11:4 of a swap word are ignored. -/
theorem encode_decodeSwap (iw : Word) : encode (decodeSwap iw) = .word .swap (iw &&& 0x004FF00F#32) := by
  rw [decodeSwap_eq, (rowOfSwapFlag_row _ _).1, swapFieldsOf_eq_extract, encodeSwap]
  simp only [ofBool_getLsbD_eq_extract, place_extract, ← BitVec.and_or_distrib_left]
  rfl

/-- R41: bits 31:4 of a branch-and-exchange word are ignored. -/
theorem encode_decodeBranchExchange (iw : Word) :
    encode (decodeBranchExchange iw) = .word .branchExchange (iw &&& 0x0000000F#32) := by
  rw [decodeBranchExchange_eq_extract, encode, encodeBranchExchange, place_extract]
  rfl

/-- R42: bits 31:25 of a branch word are ignored. -/
theorem encode_decodeBranch (iw : Word) : encode (decodeBranch iw) = .word .branch (iw &&& 0x01FFFFFF#32) := by
  rw [decodeBranch_eq, (rowOfLinkFlag_row _ _).1, encodeBranch]
  simp only [ofBool_getLsbD_eq_extract, place_extract, ← BitVec.and_or_distrib_left]
  rfl

section ShifterField

variable {f : Field}

/-- R37: bits 15:12 of an immediate field are ignored. -/
theorem encode_decodeShifter_true : encode (decodeShifter true f) = .shifter true (f &&& 0x0FFF#16) := by
  rw [decodeShifter_true, encode, encodeImmediate, place_extract, place_extract, ← BitVec.and_or_distrib_left]
  rfl

/-- R38: bits 15:11 of a literal-shift field are ignored, and its bit 4 is clear. -/
theorem encode_decodeShifter_of_literal (h4 : f.getLsbD 4 = false) :
    encode (decodeShifter false f) = .shifter false (f &&& 0x07FF#16) := by
  have hbit4 : f &&& fieldMask 16 4 1 = 0#16 := by
    rw [← place_extract, ← ofBool_getLsbD_eq_extract, h4]
    rfl
  rw [decodeShifter_of_literal h4, (rowOfLiteralShift_row _ _ _).1, encodeLiteralShift,
    ← BitVec.or_zero (x := place _ _ 0), ← hbit4]
  simp only [place_extract, ← BitVec.and_or_distrib_left]
  rfl

/-- R38: bits 15:12 of a register-shift field are ignored, its bit 7 is clear and its bit 4 set. -/
theorem encode_decodeShifter_of_register (h4 : f.getLsbD 4 = true) (h7 : f.getLsbD 7 = false) :
    encode (decodeShifter false f) = .shifter false (f &&& 0x0FFF#16) := by
  have hbit4 : place 16 1#1 4 = f &&& fieldMask 16 4 1 := by
    rw [← place_extract, ← ofBool_getLsbD_eq_extract, h4]
    rfl
  have hbit7 : f &&& fieldMask 16 7 1 = 0#16 := by
    rw [← place_extract, ← ofBool_getLsbD_eq_extract, h7]
    rfl
  rw [decodeShifter_of_register h4 h7, (rowOfRegisterShift_row _ _ _).1, encodeRegisterShift, hbit4,
    ← BitVec.or_zero (x := place _ _ 0), ← hbit7]
  simp only [place_extract, ← BitVec.and_or_distrib_left]
  rfl

end ShifterField

/-- Settles O3: format by format, the fields put back are the input under the mask of the bits the format reads. -/
theorem encodeOfDecodeClearsExactlyTheIgnoredBits : Obligations.EncodeOfDecodeClearsExactlyTheIgnoredBits := by
  intro cfg
  refine ⟨?condition, encode_decodeData, encode_decodeMultiply, encode_decodeSwap, encode_decodeBranchExchange,
    encode_decodeBranch, fun f => encode_decodeShifter_true, fun f => encode_decodeShifter_of_literal,
    fun f => encode_decodeShifter_of_register, fun f h4 h7 => ?invalid⟩
  case condition => exact fun code => (decodeCondition_row code).1
  case invalid => rw [decode, decodeShifter_of_invalid h4 h7, encode]

/-! ### The rows of the opcode table -/

theorem Presentation.port_eq_condIn_iff {p : Presentation} : p.port = .condIn ↔ ∃ code, p = .condIn code := by
  cases p <;> simp [port]

theorem Presentation.port_eq_shifter_iff {p : Presentation} :
    p.port = .shifter ↔ ∃ isImmediate f, p = .shifter isImmediate f := by
  cases p <;> simp [port]

theorem Presentation.port_eq_iw_iff {p : Presentation} {decoder : WordDecoder} :
    p.port = .iw decoder ↔ ∃ iw, p = .word decoder iw := by
  cases p <;> simp [port]

/-- R49: the 17 bits `{is_imm, field[15:0]}` of a shifter input under a mask that keeps `is_imm`. -/
theorem shifter_bits_and (isImmediate : Bool) (f mask : Field) :
    (Presentation.shifter isImmediate f).bits &&& (65536 + mask.toNat)
      = isImmediate.toNat * 65536 + (f &&& mask).toNat := by
  have hbits (flag : Bool) (x : Field) : flag.toNat * 65536 + x.toNat = (BitVec.ofBool flag ++ x).toNat := by
    rw [BitVec.toNat_append, ← Nat.shiftLeft_add_eq_or_of_lt x.isLt, Nat.shiftLeft_eq, BitVec.toNat_ofBool]
  have hmask : 65536 + mask.toNat = (BitVec.ofBool true ++ mask).toNat := by rw [← hbits]; rfl
  rw [Presentation.bits, hmask, hbits, hbits, ← BitVec.toNat_and, BitVec.and_append, BitVec.ofBool_and_ofBool,
    Bool.and_true]

/-- R49: what a shifted-register row's mask and match ask of an input. -/
theorem shifter_bits_and_eq_iff {isImmediate : Bool} {f mask pattern : Field} :
    (Presentation.shifter isImmediate f).bits &&& (65536 + mask.toNat) = pattern.toNat ↔
      isImmediate = false ∧ f &&& mask = pattern := by
  rw [shifter_bits_and, ← BitVec.toNat_inj]
  have hpattern := pattern.isLt
  cases isImmediate
  case false => simp
  case true =>
    simp only [Bool.toNat_true, Bool.true_eq_false, false_and, iff_false]
    omega

/-- R88 to R91: the pattern of bits 6:4 of a literal-shift row. -/
theorem literalPattern_iff {f : Field} {code : BitVec 2} :
    f &&& fieldMask 16 4 3 = place 16 (code ++ 0#1) 4 ↔ f.getLsbD 4 = false ∧ f.extractLsb' 5 2 = code := by
  rw [← place_extract, place_injective (by decide),
    ← BitVec.extractLsb'_append_extractLsb'_eq_extractLsb' (start₂ := 5) (len₁ := 1) (len₂ := 2) (by decide),
    ← ofBool_getLsbD_eq_extract]
  generalize f.getLsbD 4 = bit4
  generalize f.extractLsb' 5 2 = operation
  revert bit4 operation code
  decide

/-- R92 to R95: the pattern of bits 7:4 of a register-shift row. -/
theorem registerPattern_iff {f : Field} {code : BitVec 2} :
    f &&& fieldMask 16 4 4 = place 16 (0#1 ++ code ++ 1#1) 4 ↔
      f.getLsbD 4 = true ∧ f.getLsbD 7 = false ∧ f.extractLsb' 5 2 = code := by
  rw [← place_extract, place_injective (by decide),
    ← BitVec.extractLsb'_append_extractLsb'_eq_extractLsb' (start₂ := 5) (len₁ := 1) (len₂ := 3) (by decide),
    ← BitVec.extractLsb'_append_extractLsb'_eq_extractLsb' (start₂ := 7) (len₁ := 2) (len₂ := 1) (by decide),
    ← ofBool_getLsbD_eq_extract, ← ofBool_getLsbD_eq_extract]
  generalize f.getLsbD 4 = bit4
  generalize f.getLsbD 7 = bit7
  generalize f.extractLsb' 5 2 = operation
  revert bit4 bit7 operation code
  decide

/-- R49: an input of a row's port that shows the row's match under the row's mask. -/
def Presentation.Matches (p : Presentation) (row : Row) : Prop :=
  row.port = p.port ∧ p.bits &&& row.mask = row.pattern

theorem shifter_matches_row_iff {isImmediate : Bool} {f mask pattern : Field} :
    (Presentation.shifter isImmediate f).Matches ⟨.shifter, 65536 + mask.toNat, pattern.toNat⟩ ↔
      isImmediate = false ∧ f &&& mask = pattern := by
  rw [Presentation.Matches, shifter_bits_and_eq_iff]
  exact and_iff_right rfl

theorem condIn_matches_row_iff {code x : BitVec 4} :
    (Presentation.condIn code).Matches ⟨.condIn, (fieldMask 4 0 4).toNat, (place 4 x 0).toNat⟩ ↔ code = x := by
  rw [Presentation.Matches, Presentation.bits, toNat_and_fieldMask_eq_iff (by decide), BitVec.extractLsb'_eq_self]
  exact and_iff_right rfl

theorem word_matches_row_iff {decoder : WordDecoder} {iw : Word} {n o : Nat} {x : BitVec n} (h : o + n ≤ 32) :
    (Presentation.word decoder iw).Matches ⟨.iw decoder, (fieldMask 32 o n).toNat, (place 32 x o).toNat⟩ ↔
      iw.extractLsb' o n = x := by
  rw [Presentation.Matches, Presentation.bits, toNat_and_fieldMask_eq_iff h]
  exact and_iff_right rfl

/-- The immediate row asks for the immediate flag only. -/
theorem shifter_matches_immediate_iff {isImmediate : Bool} {f : Field} :
    (Presentation.shifter isImmediate f).Matches ⟨.shifter, 0x10000, 0x10000⟩ ↔ isImmediate = true := by
  have hbits := shifter_bits_and isImmediate f 0#16
  rw [BitVec.and_zero] at hbits
  rw [Presentation.Matches, show 0x10000 = 65536 + (0#16).toNat from rfl, hbits]
  cases isImmediate <;> simp [Presentation.port]

/-- R49: an input shows the match of the row it is decoded to. -/
theorem matches_row_decode (cfg : Config) {p : Presentation} (hp : p.port ≠ .iw .condition) :
    p.Matches (decode cfg p).row := by
  match p with
  | .condIn code =>
    rw [decode, (decodeCondition_row code).2.2]
    exact condIn_matches_row_iff.mpr rfl
  | .shifter true f =>
    rw [decode, decodeShifter_true]
    exact shifter_matches_immediate_iff.mpr rfl
  | .shifter false f =>
    cases h4 : f.getLsbD 4
    case false =>
      rw [decode, decodeShifter_of_literal h4, (rowOfLiteralShift_row _ _ _).2.2]
      exact shifter_matches_row_iff.mpr ⟨rfl, literalPattern_iff.mpr ⟨h4, rfl⟩⟩
    case true =>
      cases h7 : f.getLsbD 7
      case false =>
        rw [decode, decodeShifter_of_register h4 h7, (rowOfRegisterShift_row _ _ _).2.2]
        exact shifter_matches_row_iff.mpr ⟨rfl, registerPattern_iff.mpr ⟨h4, h7, rfl⟩⟩
      case true =>
        rw [decode, decodeShifter_of_invalid h4 h7]
        exact shifter_matches_row_iff.mpr ⟨rfl, matches_invalidField_iff.mpr ⟨h4, h7⟩⟩
  | .word .condition iw => exact absurd rfl hp
  | .word .dataInstruction iw =>
    rw [decode, decodeData, (rowOfDataCode_row _ _).2.2, word_matches_row_iff (by decide), getBits_eq_extract]
  | .word .multiply iw =>
    rw [decode, decodeMultiply_eq, (rowOfMultiplyFlags_row _ _).2.2, word_matches_row_iff (by decide)]
  | .word .swap iw =>
    rw [decode, decodeSwap_eq, (rowOfSwapFlag_row _ _).2.2, word_matches_row_iff (by decide), ofBool_getLsbD_eq_extract]
  | .word .branchExchange iw => exact ⟨rfl, Nat.and_zero _⟩
  | .word .branch iw =>
    rw [decode, decodeBranch_eq, (rowOfLinkFlag_row _ _).2.2, word_matches_row_iff (by decide), ofBool_getLsbD_eq_extract]

/-- R49: an input that shows a row's match is decoded to that row. -/
theorem row_eq_row_decode (cfg : Config) {p : Presentation} {i : Instr} (h : p.Matches i.row) :
    i.row = (decode cfg p).row := by
  have hport := h.1.symm
  induction i using Instr.format_cases with
  | condition code =>
    rw [(decodeCondition_row code).2.2] at h hport ⊢
    obtain ⟨c, rfl⟩ := Presentation.port_eq_condIn_iff.mp hport
    rw [decode, (decodeCondition_row c).2.2, condIn_matches_row_iff.mp h]
  | data code d =>
    rw [(rowOfDataCode_row code d).2.2] at h hport ⊢
    obtain ⟨iw, rfl⟩ := Presentation.port_eq_iw_iff.mp hport
    rw [decode, decodeData, (rowOfDataCode_row _ _).2.2, getBits_eq_extract, (word_matches_row_iff (by decide)).mp h]
  | immediate value rotate =>
    obtain ⟨isImmediate, f, rfl⟩ := Presentation.port_eq_shifter_iff.mp hport
    rw [shifter_matches_immediate_iff.mp h, decode, decodeShifter_true]
    rfl
  | literalShift code amount source =>
    rw [(rowOfLiteralShift_row code amount source).2.2] at h hport ⊢
    obtain ⟨isImmediate, f, rfl⟩ := Presentation.port_eq_shifter_iff.mp hport
    obtain ⟨rfl, hpattern⟩ := shifter_matches_row_iff.mp h
    obtain ⟨h4, hcode⟩ := literalPattern_iff.mp hpattern
    rw [decode, decodeShifter_of_literal h4, (rowOfLiteralShift_row _ _ _).2.2, hcode]
  | registerShift code amountRegister source =>
    rw [(rowOfRegisterShift_row code amountRegister source).2.2] at h hport ⊢
    obtain ⟨isImmediate, f, rfl⟩ := Presentation.port_eq_shifter_iff.mp hport
    obtain ⟨rfl, hpattern⟩ := shifter_matches_row_iff.mp h
    obtain ⟨h4, h7, hcode⟩ := registerPattern_iff.mp hpattern
    rw [decode, decodeShifter_of_register h4 h7, (rowOfRegisterShift_row _ _ _).2.2, hcode]
  | invalid payload =>
    obtain ⟨isImmediate, f, rfl⟩ := Presentation.port_eq_shifter_iff.mp hport
    obtain ⟨rfl, hpattern⟩ := shifter_matches_row_iff (mask := 0x0090#16) (pattern := 0x0090#16).mp h
    obtain ⟨h4, h7⟩ := matches_invalidField_iff.mp hpattern
    rw [decode, decodeShifter_of_invalid h4 h7]
    rfl
  | multiply flags m =>
    rw [(rowOfMultiplyFlags_row flags m).2.2] at h hport ⊢
    obtain ⟨iw, rfl⟩ := Presentation.port_eq_iw_iff.mp hport
    rw [decode, decodeMultiply_eq, (rowOfMultiplyFlags_row _ _).2.2, (word_matches_row_iff (by decide)).mp h]
  | swap flag w =>
    rw [(rowOfSwapFlag_row flag w).2.2] at h hport ⊢
    obtain ⟨iw, rfl⟩ := Presentation.port_eq_iw_iff.mp hport
    rw [decode, decodeSwap_eq, (rowOfSwapFlag_row _ _).2.2, ofBool_getLsbD_eq_extract,
      (word_matches_row_iff (by decide)).mp h]
  | branchExchange register =>
    obtain ⟨iw, rfl⟩ := Presentation.port_eq_iw_iff.mp hport
    rfl
  | branch link offset =>
    rw [(rowOfLinkFlag_row link offset).2.2] at h hport ⊢
    obtain ⟨iw, rfl⟩ := Presentation.port_eq_iw_iff.mp hport
    rw [decode, decodeBranch_eq, (rowOfLinkFlag_row _ _).2.2, ofBool_getLsbD_eq_extract,
      (word_matches_row_iff (by decide)).mp h]

/-- Settles O4: an input shows the match of its own row, and any row whose match it shows is that one. -/
theorem theTableRowsOfAFormatPartitionItsInputs : Obligations.TheTableRowsOfAFormatPartitionItsInputs := by
  intro cfg p hp
  obtain ⟨hport, hbits⟩ := matches_row_decode cfg hp
  exact ⟨hport, hbits, fun i hiport hibits => row_eq_row_decode cfg ⟨hiport, hibits⟩⟩

/-! ### Sample words, the tie of the condition input, and raw values -/

/-- Settles O5: seven closed words, evaluated. -/
theorem sampleWordsDecodeToTheirInstructions : Obligations.SampleWordsDecodeToTheirInstructions := by
  intro cfg
  exact ⟨rfl, rfl, rfl, rfl, rfl, rfl, rfl⟩

/-- Settles O6: the tied code is the slice of the word at `COND_LSB`. -/
theorem theConditionIsTiedToTheWord : Obligations.TheConditionIsTiedToTheWord := by
  intro cfg iw
  rw [decode, decode, tiedCondition, getBits_eq_extract]

theorem present_of_wide {port : Port} {value : Nat} (h : 2 ^ port.width ≤ value) :
    present port value = .error (.widerThanPort port value) := by
  unfold present
  rw [if_neg (Nat.not_lt.mpr h)]

theorem present_of_fits {port : Port} {value : Nat} (h : value < 2 ^ port.width) :
    ∃ p : Presentation, p.port = port ∧ p.bits = value ∧ present port value = .ok p := by
  unfold present
  rw [if_pos h]
  cases port
  case condIn => exact ⟨.condIn (BitVec.ofNat 4 value), rfl, Nat.mod_eq_of_lt h, rfl⟩
  case shifter =>
    refine ⟨_, rfl, ?_, rfl⟩
    have hwidth : value < 131072 := h
    simp only [Presentation.bits, BitVec.toNat_ofNat, Nat.toNat_testBit]
    omega
  case iw decoder => exact ⟨.word decoder (BitVec.ofNat 32 value), rfl, Nat.mod_eq_of_lt h, rfl⟩

/-- Settles O7: a raw value is presented exactly when it fits its port. -/
theorem valuesWiderThanThePortAreRefusedByName : Obligations.ValuesWiderThanThePortAreRefusedByName := by
  intro cfg port value
  constructor
  · intro hwide
    rw [decodeRaw, present_of_wide hwide]
    rfl
  · intro hfits
    obtain ⟨p, hport, hbits, hpresent⟩ := present_of_fits hfits
    refine ⟨p, hport, hbits, ?_⟩
    rw [decodeRaw, hpresent]
    rfl

end Sys2Proof
end

section
/-! Settles O9 and O10, the statements of 40_bitfield.md on preconditions and laws, for every width. -/

namespace Sys2Proof

section Checked

variable {W : Nat} (w : BitVec W) {o l : Nat}

theorem getBits?_of_fits (h : o + l ≤ W) : getBits? w o l = some (getBits w o l h) := dif_pos h

theorem getBits?_of_wide (h : W < o + l) : getBits? w o l = none := dif_neg (Nat.not_le.mpr h)

theorem isFlagSet?_of_fits (h : o + 1 ≤ W) : isFlagSet? w o = some (isFlagSet w o h) := dif_pos h

theorem isFlagSet?_of_wide (h : W < o + 1) : isFlagSet? w o = none := dif_neg (Nat.not_le.mpr h)

theorem getRegister?_of_fits (h : o + 4 ≤ W) : getRegister? w o = some (getRegister w o h) := dif_pos h

theorem getRegister?_of_wide (h : W < o + 4) : getRegister? w o = none := dif_neg (Nat.not_le.mpr h)

end Checked

/-- Settles O9: each checked primitive is the primitive inside its precondition and `none` outside it. -/
theorem usesOutsideThePreconditionHaveNoResult : Obligations.UsesOutsideThePreconditionHaveNoResult := by
  refine ⟨fun W w o l => ⟨?wideBits, ?bits⟩, fun W w o => ⟨?wideFlag, ?flag⟩, fun W w o => ⟨?wideRegister, ?register⟩,
    fun i => ⟨?wideIndex, ?index⟩⟩
  case wideBits => exact getBits?_of_wide w
  case bits => exact fun h => ⟨_, getBits?_of_fits w h, getBits_toNat w o l h⟩
  case wideFlag => exact isFlagSet?_of_wide w
  case flag =>
    intro h
    rw [isFlagSet?_of_fits w h, isFlagSet_eq_getLsbD]
  case wideRegister => exact getRegister?_of_wide w
  case register =>
    intro h
    rw [getRegister?_of_fits w h, getRegister_eq_extract]
  case wideIndex => exact fun h => dif_neg (Nat.not_le.mpr h)
  case index => exact fun h => dif_pos h

/-- R54, split: the low part of a field and the high part above it. -/
theorem getBits_toNat_add {W : Nat} (w : BitVec W) {o l₁ l₂ : Nat} (h : o + (l₁ + l₂) ≤ W) (h₁ : o + l₁ ≤ W)
    (h₂ : o + l₁ + l₂ ≤ W) :
    (getBits w o (l₁ + l₂) h).toNat = (getBits w o l₁ h₁).toNat + 2 ^ l₁ * (getBits w (o + l₁) l₂ h₂).toNat := by
  simp only [getBits_toNat]
  rw [pow_add 2 l₁, Nat.mod_mul, Nat.div_div_eq_div_mul, ← pow_add]

/-- Settles O10: the laws of R54 as laws of slices. -/
theorem bitFieldLaws : Obligations.BitFieldLaws := by
  refine ⟨fun W w o l h => ?range, fun W w h => ?identity, fun W w w' o l h hbits => ?locality,
    fun W w o l o' l' h h' h'' => ?composition, fun W w o l₁ l₂ h h₁ h₂ => ?split, fun W₁ W₂ w o l h₁ h₂ _ => ?width⟩
  case range => exact (getBits w o l h).isLt
  case identity => rw [getBits_eq_extract, BitVec.extractLsb'_eq_self]
  case locality =>
    rw [getBits_eq_extract, getBits_eq_extract, extract_eq_extract_iff]
    exact fun i hi => hbits (o + i) (Nat.le_add_right o i) (Nat.add_lt_add_left hi o)
  case composition => simp only [getBits_eq_extract, extract_extract w h']
  case split => exact getBits_toNat_add w h h₁ h₂
  case width => rw [getBits_eq_extract, getBits_eq_extract, BitVec.extractLsb'_setWidth_of_le h₂]

end Sys2Proof
end

section
/-! Settles O13 and O37: each enumerant and its code are inverse to each other, and a mnemonic names one enumerant. -/

namespace Sys2Proof

/-! ### Codes -/

@[simp] theorem ConditionCode.fromBits_toBits (cc : ConditionCode) : fromBits cc.toBits = cc := by
  cases cc <;> rfl

@[simp] theorem ConditionCode.toBits_fromBits (code : BitVec 4) : (fromBits code).toBits = code := by
  rcases code4_cases code with
    rfl | rfl | rfl | rfl | rfl | rfl | rfl | rfl | rfl | rfl | rfl | rfl | rfl | rfl | rfl | rfl
  all_goals rfl

@[simp] theorem DataOpcode.fromBits_toBits (op : DataOpcode) : fromBits op.toBits = op := by
  cases op <;> rfl

@[simp] theorem DataOpcode.toBits_fromBits (code : BitVec 4) : (fromBits code).toBits = code := by
  rcases code4_cases code with
    rfl | rfl | rfl | rfl | rfl | rfl | rfl | rfl | rfl | rfl | rfl | rfl | rfl | rfl | rfl | rfl
  all_goals rfl

@[simp] theorem ShiftOperation.fromCode_toBits (operation : ShiftOperation) : fromCode operation.toBits = operation := by
  cases operation <;> rfl

@[simp] theorem ShiftOperation.toBits_fromCode (code : BitVec 2) : (fromCode code).toBits = code := by
  rcases code2_cases code with rfl | rfl | rfl | rfl
  all_goals rfl

/-! ### Mnemonics -/

theorem ConditionCode.mem_table (cc : ConditionCode) : cc ∈ table.toList := by
  rw [← fromBits_toBits cc]
  exact Vector.mem_toList_iff.mpr (Vector.getElem_mem cc.toBits.isLt)

/-- R61, D19: no two conditions show the same mnemonic on wires. -/
theorem ConditionCode.mnemonicWires_injective {a b : ConditionCode}
    (h : Machine.mnemonicWires 2 a.toMnemonic = Machine.mnemonicWires 2 b.toMnemonic) : a = b := by
  have hnodup : (table.toList.map fun cc => Machine.mnemonicWires 2 cc.toMnemonic).Nodup := by decide
  exact List.inj_on_of_nodup_map hnodup (mem_table a) (mem_table b) h

/-- Settles O13: the codes and the enumerants are inverse to each other, and mnemonics that differ on wires differ. -/
theorem theConditionDecoderIsABijection : Obligations.TheConditionDecoderIsABijection := by
  refine ⟨?order, ConditionCode.toBits_fromBits, ConditionCode.fromBits_toBits, fun a b h => ?distinct, fun cc => ?letters⟩
  case order => decide
  case distinct => exact ConditionCode.mnemonicWires_injective (congrArg (Machine.mnemonicWires 2) h)
  case letters => cases cc <;> decide

/-- R101: a data mnemonic is the table's entry at the opcode's code. -/
theorem DataOpcode.toMnemonic_eq_getElem (cfg : Config) (op : DataOpcode) :
    op.toMnemonic cfg = cfg.dataMnemonics.toList[op.toBits.toNat]'(by simpa using op.toBits.isLt) := rfl

theorem Config.wf_iff {cfg : Config} :
    cfg.wf = true ↔ (∀ m ∈ cfg.dataMnemonics.toList, isThreeLetterMnemonic m = true) ∧ cfg.dataMnemonics.toList.Nodup := by
  simp only [wf, Bool.and_eq_true, List.all_eq_true, decide_eq_true_eq]

/-- Settles O37: the conditions' table has no mnemonic twice on wires, and a legal `DATA_MNEMONICS` has none twice. -/
theorem theMnemonicWires : Obligations.TheMnemonicWires := by
  refine ⟨by decide, by decide, fun a b => ConditionCode.mnemonicWires_injective, fun cfg a b hwf h => ?distinct,
    fun cfg op hwf => ?letters⟩
  case distinct =>
    have hnodup := (Config.wf_iff.mp hwf).2
    rw [DataOpcode.toMnemonic_eq_getElem, DataOpcode.toMnemonic_eq_getElem, hnodup.getElem_inj_iff, BitVec.toNat_inj] at h
    rw [← DataOpcode.fromBits_toBits a, h, DataOpcode.fromBits_toBits]
  case letters => exact (Config.wf_iff.mp hwf).1 _ (List.getElem_mem _)

end Sys2Proof
end

section
/-! Settles O14 to O18, O30 and O31, the statements of 43_data_processing.md: a data row is the row of its code and records
what its shifter field decodes to, and a data word's result is a function of the slices its field map names. -/

namespace Sys2Proof

open Machine

/-! ### The sixteen rows -/

/-- R100: the table of the statements is the model's two tables, code by code. -/
theorem row_of_mem_dataRowsOfTheTable {r : BitVec 4 × (DataFields → Instr) × DataOpcode}
    (hr : r ∈ dataRowsOfTheTable) : r.2.1 = rowOfDataCode r.1 ∧ r.2.2 = DataOpcode.fromBits r.1 := by
  simp only [dataRowsOfTheTable, List.mem_cons, List.not_mem_nil, or_false] at hr
  rcases hr with
    rfl | rfl | rfl | rfl | rfl | rfl | rfl | rfl | rfl | rfl | rfl | rfl | rfl | rfl | rfl | rfl
  all_goals exact ⟨rfl, rfl⟩

theorem DataOpcode.toMnemonic_fromBits (cfg : Config) (code : BitVec 4) :
    (fromBits code).toMnemonic cfg = cfg.dataMnemonics[code.toNat]'code.isLt := by
  simp [toMnemonic]

/-- R102 to R117: a row of the table records its data result and the OPEN table's entry at its code. -/
theorem exec_of_mem_dataRowsOfTheTable {r : BitVec 4 × (DataFields → Instr) × DataOpcode} (hr : r ∈ dataRowsOfTheTable)
    {d : DataFields} {result : DecodeResult DataInstruction} (hresult : dataResult r.2.2 d = result) (s : State) :
    exec (r.2.1 d) s = .next { s with observed := s.observed ++
      [.data result (s.design.dataMnemonics[r.1.toNat]'r.1.isLt)] } := by
  obtain ⟨hrow, hop⟩ := row_of_mem_dataRowsOfTheTable hr
  rw [hrow, exec_rowOfDataCode, dataRow_eq, ← hop, hresult, hop, DataOpcode.toMnemonic_fromBits]
  rfl

/-- Settles O14: the word's row is that of its code, with the slices of R37 as fields. -/
theorem theOpcodeFieldSelectsTheDataRow : Obligations.TheOpcodeFieldSelectsTheDataRow := by
  intro r hr cfg iw hcode
  obtain ⟨hrow, hop⟩ := row_of_mem_dataRowsOfTheTable hr
  constructor
  · rw [hcode, hop]
  · rw [decode, decodeData, getBits_eq_extract, hcode, ← hrow, dataFieldsOf_eq_extract]

/-- Settles O15: with the immediate flag the field is decoded by the immediate entry point (R80). -/
theorem dataRowsWithARotatedImmediate : Obligations.DataRowsWithARotatedImmediate := by
  intro r hr d s himmediate
  refine exec_of_mem_dataRowsOfTheTable hr (dataResult_ok_iff.mpr ⟨_, ?_, rfl⟩) s
  rw [himmediate, ShifterOperand.decode_true, ShifterOperand.fromImmediate_eq_extract]

/-- Settles O16: with bit 4 clear the field is a literal shift (R83). -/
theorem dataRowsWithALiteralShift : Obligations.DataRowsWithALiteralShift := by
  intro r hr d s himmediate h4
  refine exec_of_mem_dataRowsOfTheTable hr (dataResult_ok_iff.mpr ⟨_, ?_, rfl⟩) s
  rw [himmediate, ShifterOperand.decode_false, ShifterOperand.fromRegisterOperand_of_literal h4]
  rfl

/-- Settles O17: with bit 4 set and bit 7 clear the field is a register shift (R84). -/
theorem dataRowsWithARegisterShift : Obligations.DataRowsWithARegisterShift := by
  intro r hr d s himmediate h4 h7
  refine exec_of_mem_dataRowsOfTheTable hr (dataResult_ok_iff.mpr ⟨_, ?_, rfl⟩) s
  rw [himmediate, ShifterOperand.decode_false, ShifterOperand.fromRegisterOperand_of_register h4 h7]

/-- Settles O18: with bits 4 and 7 set the field is the decoder's error, and so the row's result (R85, R121). -/
theorem dataRowsWithAnInvalidShifterField : Obligations.DataRowsWithAnInvalidShifterField := by
  intro r hr d s himmediate h4 h7
  refine exec_of_mem_dataRowsOfTheTable hr (dataResult_err_iff.mpr ?_) s
  rw [himmediate, ShifterOperand.decode_false, ShifterOperand.fromRegisterOperand_of_invalid h4 h7]

/-! ### What a result depends on -/

/-- R120: the result of a data word is a function of its fields. -/
theorem DataInstruction.fromBits_eq_dataResult (iw : Word) :
    DataInstruction.fromBits iw = dataResult (DataOpcode.fromBits (iw.extractLsb' 21 4))
      ⟨iw.getLsbD 25, iw.getLsbD 20, ⟨iw.extractLsb' 16 4⟩, ⟨iw.extractLsb' 12 4⟩, iw.extractLsb' 0 16⟩ := by
  rw [← dataResult_dataFieldsOf, getBits_eq_extract, dataFieldsOf_eq_extract]

theorem xor_and_not_self {W : Nat} (w mask : BitVec W) : (w ^^^ mask) &&& ~~~mask = w &&& ~~~mask := by
  apply BitVec.eq_of_getLsbD_eq
  intro i hi
  simp only [BitVec.getLsbD_and, BitVec.getLsbD_xor, BitVec.getLsbD_not]
  cases mask.getLsbD i <;> simp

/-- Settles O30: the fields of a data word avoid bits 31:26, and those of a literal shift avoid bit 11 too. -/
theorem ignoredBitsOfADataWordChangeNothing : Obligations.IgnoredBitsOfADataWordChangeNothing := by
  refine ⟨fun a b h => ?highBits, fun iw h25 h4 => ?bit11⟩
  case highBits =>
    rw [DataInstruction.fromBits_eq_dataResult, DataInstruction.fromBits_eq_dataResult,
      extract_eq_of_and_eq h (o := 21) (l := 4) rfl, getLsbD_eq_of_and_eq h (i := 25) rfl,
      getLsbD_eq_of_and_eq h (i := 20) rfl, extract_eq_of_and_eq h (o := 16) (l := 4) rfl,
      extract_eq_of_and_eq h (o := 12) (l := 4) rfl, extract_eq_of_and_eq h (o := 0) (l := 16) rfl]
  case bit11 =>
    have h := xor_and_not_self iw 0x00000800#32
    have hbit25 := (getLsbD_eq_of_and_eq h (i := 25) rfl).trans h25
    have hbit4 := (getLsbD_eq_of_and_eq h (i := 4) rfl).trans h4
    obtain ⟨-, hliteral, -⟩ := theDataInstructionDecoderFollowsItsFieldMap.1 iw
    obtain ⟨-, hliteral', -⟩ := theDataInstructionDecoderFollowsItsFieldMap.1 (iw ^^^ 0x00000800#32)
    rw [hliteral h25 h4, hliteral' hbit25 hbit4,
      extract_eq_of_and_eq h (o := 21) (l := 4) rfl,
      getLsbD_eq_of_and_eq h (i := 20) rfl, extract_eq_of_and_eq h (o := 16) (l := 4) rfl,
      extract_eq_of_and_eq h (o := 12) (l := 4) rfl, extract_eq_of_and_eq h (o := 7) (l := 4) rfl,
      extract_eq_of_and_eq h (o := 5) (l := 2) rfl, extract_eq_of_and_eq h (o := 0) (l := 4) rfl]

/-- R87: a decoded operand depends on bits 11:0 of its field only. -/
theorem ShifterOperand.decode_ok_of_low_eq {isImmediate : Bool} {f f' : Field} {v : ShifterOperand}
    (hlow : f.extractLsb' 0 12 = f'.extractLsb' 0 12) (h : ShifterOperand.decode isImmediate f = .ok v) :
    ShifterOperand.decode isImmediate f' = .ok v := by
  have hslice (o l : Nat) (hl : o + l ≤ 12) : f.extractLsb' o l = f'.extractLsb' o l := by
    have := congrArg (·.extractLsb' o l) hlow
    simpa only [extract_extract _ hl, Nat.zero_add] using this
  have hbit (i : Nat) (hi : i < 12) : f.getLsbD i = f'.getLsbD i := by
    simpa using (extract_eq_extract_iff f f' 0 12).mp hlow i hi
  cases isImmediate
  case true =>
    rw [decode_true, fromImmediate_eq_extract] at h ⊢
    rw [← hslice 0 8 (by decide), ← hslice 8 4 (by decide), h]
  case false =>
    rw [decode_false] at h ⊢
    cases h4 : f.getLsbD 4
    case false =>
      have h4' := (hbit 4 (by decide)).symm.trans h4
      rw [fromRegisterOperand_of_literal h4']
      rw [fromRegisterOperand_of_literal h4] at h
      rw [← hslice 5 2 (by decide), ← hslice 0 4 (by decide), ← hslice 7 4 (by decide), h]
    case true =>
      have h4' := (hbit 4 (by decide)).symm.trans h4
      cases h7 : f.getLsbD 7
      case false =>
        have h7' := (hbit 7 (by decide)).symm.trans h7
        rw [fromRegisterOperand_of_register h4' h7']
        rw [fromRegisterOperand_of_register h4 h7] at h
        rw [← hslice 5 2 (by decide), ← hslice 0 4 (by decide), ← hslice 8 4 (by decide), h]
      case true =>
        rw [fromRegisterOperand_of_invalid h4 h7] at h
        cases h

/-- R87, R96: data words that agree on bits 25 and 11:0 have the same second operand, if they have one. -/
theorem ShifterOperand.decode_word_unique {a b : Word} {va vb : ShifterOperand}
    (hflag : a.getLsbD 25 = b.getLsbD 25) (hlow : a.extractLsb' 0 12 = b.extractLsb' 0 12)
    (ha : ShifterOperand.decode (a.getLsbD 25) (a.extractLsb' 0 16) = .ok va)
    (hb : ShifterOperand.decode (b.getLsbD 25) (b.extractLsb' 0 16) = .ok vb) : va = vb := by
  have hfield : (a.extractLsb' 0 16).extractLsb' 0 12 = (b.extractLsb' 0 16).extractLsb' 0 12 := by
    rw [extract_extract a (by decide), extract_extract b (by decide), hlow]
  rw [hflag] at ha
  have hab := decode_ok_of_low_eq hfield ha
  rw [hb] at hab
  cases hab
  rfl

theorem DecodeResult.ok_iff_not_err {α : Type} {result : DecodeResult α} :
    (∃ v, result = .ok v) ↔ ¬ ∃ e, result = .err e := by
  cases result <;> simp

/-- Settles O31: each field of the record is a slice of the word, or the second operand, which reads bits 25 and 11:0. -/
theorem theFieldsOfADataInstructionAreIndependent : Obligations.TheFieldsOfADataInstructionAreIndependent := by
  refine ⟨fun a b da db ha hb => ?fields, fun a b h => ?decodes⟩
  case fields =>
    obtain ⟨va, hva, rfl⟩ := DataInstruction.fromBits_ok_iff.mp ha
    obtain ⟨vb, hvb, rfl⟩ := DataInstruction.fromBits_ok_iff.mp hb
    have hoperand2 {mask : Word} (h : a &&& mask = b &&& mask) (h25 : mask.getLsbD 25 = true)
        (hlow : mask.extractLsb' 0 12 = BitVec.allOnes 12) : va = vb :=
      ShifterOperand.decode_word_unique (getLsbD_eq_of_and_eq h h25) (extract_eq_of_and_eq h hlow) hva hvb
    refine ⟨fun h => ?opcode, fun h => ?flag, fun h => ?operand1, fun h => ?destination, fun h => ?immediate,
      fun h => ?shifterField⟩
    case opcode =>
      rw [hoperand2 h rfl rfl, extract_eq_of_and_eq h (o := 16) (l := 4) rfl,
        extract_eq_of_and_eq h (o := 12) (l := 4) rfl, getLsbD_eq_of_and_eq h (i := 20) rfl]
    case flag =>
      rw [hoperand2 h rfl rfl, extract_eq_of_and_eq h (o := 16) (l := 4) rfl,
        extract_eq_of_and_eq h (o := 12) (l := 4) rfl, extract_eq_of_and_eq h (o := 21) (l := 4) rfl]
    case operand1 =>
      rw [hoperand2 h rfl rfl, extract_eq_of_and_eq h (o := 21) (l := 4) rfl,
        extract_eq_of_and_eq h (o := 12) (l := 4) rfl, getLsbD_eq_of_and_eq h (i := 20) rfl]
    case destination =>
      rw [hoperand2 h rfl rfl, extract_eq_of_and_eq h (o := 21) (l := 4) rfl,
        extract_eq_of_and_eq h (o := 16) (l := 4) rfl, getLsbD_eq_of_and_eq h (i := 20) rfl]
    case immediate =>
      rw [extract_eq_of_and_eq h (o := 21) (l := 4) rfl, extract_eq_of_and_eq h (o := 16) (l := 4) rfl,
        extract_eq_of_and_eq h (o := 12) (l := 4) rfl, getLsbD_eq_of_and_eq h (i := 20) rfl]
    case shifterField =>
      rw [extract_eq_of_and_eq h (o := 21) (l := 4) rfl, extract_eq_of_and_eq h (o := 16) (l := 4) rfl,
        getLsbD_eq_of_and_eq h (i := 20) rfl]
  case decodes =>
    obtain ⟨hinvalidA, -⟩ := theOneInvalidEncoding a
    obtain ⟨hinvalidB, -⟩ := theOneInvalidEncoding b
    rw [DecodeResult.ok_iff_not_err, DecodeResult.ok_iff_not_err, hinvalidA, hinvalidB, h]

end Sys2Proof
end

section
/-! Settles O32, O33 and O26: the records of a multiply and of a swap word field by field (R139, R153), with the bits a
decoder reads as the join of its fields' masks; and the branch offset (R163). -/

namespace Sys2Proof

/-! ### Multiply -/

/-- R139: two multiply words have the same record exactly when they agree on each field's bits. -/
theorem Multiply.fromBits_eq_iff {a b : Word} : Multiply.fromBits a = Multiply.fromBits b ↔
    a.getLsbD 23 = b.getLsbD 23 ∧ a.getLsbD 22 = b.getLsbD 22 ∧ a.getLsbD 21 = b.getLsbD 21 ∧
      a.getLsbD 20 = b.getLsbD 20 ∧ a.extractLsb' 12 4 = b.extractLsb' 12 4 ∧ a.extractLsb' 8 4 = b.extractLsb' 8 4 ∧
      a.extractLsb' 0 4 = b.extractLsb' 0 4 ∧ a.extractLsb' 16 4 = b.extractLsb' 16 4 := by
  simp only [fromBits_eq_extract, Multiply.mk.injEq, Register.mk.injEq]

theorem extract_one_eq_iff {W : Nat} {a b : BitVec W} {o : Nat} :
    a.extractLsb' o 1 = b.extractLsb' o 1 ↔ a.getLsbD o = b.getLsbD o := by
  simp [extract_eq_extract_iff]

/-- R39, R139: the multiply decoder reads bits 23:8 and 3:0. -/
theorem multiplyMask_eq : 0x00FFFF0F#32 = fieldMask 32 23 1 ||| (fieldMask 32 22 1 ||| (fieldMask 32 21 1 |||
    (fieldMask 32 20 1 ||| (fieldMask 32 12 4 ||| (fieldMask 32 8 4 ||| (fieldMask 32 0 4 ||| fieldMask 32 16 4)))))) := by
  decide

/-- A multiply record after its word was flipped under a mask: each field is flipped under its own part of the mask. -/
theorem Multiply.fromBits_xor (iw mask : Word) :
    Multiply.fromBits (iw ^^^ mask) =
      { long := iw.getLsbD 23 ^^ mask.getLsbD 23, signed := iw.getLsbD 22 ^^ mask.getLsbD 22,
        accumulate := iw.getLsbD 21 ^^ mask.getLsbD 21, setConditionCodes := iw.getLsbD 20 ^^ mask.getLsbD 20,
        destination := ⟨iw.extractLsb' 16 4 ^^^ mask.extractLsb' 16 4⟩,
        operand1 := ⟨iw.extractLsb' 12 4 ^^^ mask.extractLsb' 12 4⟩,
        operand2 := ⟨iw.extractLsb' 8 4 ^^^ mask.extractLsb' 8 4⟩,
        operand3 := ⟨iw.extractLsb' 0 4 ^^^ mask.extractLsb' 0 4⟩ } := by
  simp only [fromBits_eq_extract, BitVec.getLsbD_xor, BitVec.extractLsb'_xor]

/-- Settles O32: a flag's mask touches that flag's bit only, and the record is equal where each field's bits are. -/
theorem theMultiplyFlagsAreIndependent : Obligations.TheMultiplyFlagsAreIndependent := by
  refine ⟨fun iw => ?flips, fun a b => ⟨?long, ?signed, ?accumulate, ?flag, ?destination, ?operand1, ?operand2, ?operand3,
    ?record⟩⟩
  case flips =>
    simp only [Multiply.fromBits_xor]
    simp [Multiply.fromBits_eq_extract]
  case record =>
    rw [Multiply.fromBits_eq_iff, multiplyMask_eq]
    simp (disch := decide) only [and_or_eq_iff, and_fieldMask_eq_iff, extract_one_eq_iff]
  all_goals simp only [Multiply.fromBits_eq_extract, Register.mk.injEq]

/-! ### Swap -/

theorem SwapSize.ofFlag_inj {a b : Bool} : ofFlag a = ofFlag b ↔ a = b := by
  cases a <;> cases b <;> simp [ofFlag]

/-- R153: two swap words have the same record exactly when they agree on each field's bits. -/
theorem Swap.fromBits_eq_iff {a b : Word} : Swap.fromBits a = Swap.fromBits b ↔
    a.extractLsb' 0 4 = b.extractLsb' 0 4 ∧ a.extractLsb' 12 4 = b.extractLsb' 12 4 ∧
      a.extractLsb' 16 4 = b.extractLsb' 16 4 ∧ a.getLsbD 22 = b.getLsbD 22 := by
  simp only [fromBits_eq_extract, Swap.mk.injEq, Register.mk.injEq, SwapSize.ofFlag_inj]

/-- R40, R153: the swap decoder reads bits 22, 19:12 and 3:0. -/
theorem swapMask_eq : 0x004FF00F#32 =
    fieldMask 32 0 4 ||| (fieldMask 32 12 4 ||| (fieldMask 32 16 4 ||| fieldMask 32 22 1)) := by
  decide

theorem SwapSize.wire_ofFlag (flag : Bool) : Machine.SwapSize.wire (ofFlag flag) = flag := by
  cases flag <;> rfl

/-- Settles O33: the record is equal where each field's bits are, and its wires are those bits. -/
theorem theSwapFieldsAndWires : Obligations.TheSwapFieldsAndWires := by
  refine ⟨fun a b => ?record, fun a b => ⟨fun h => ?size, fun h => ?base, fun h => ?destination, fun h => ?source⟩,
    fun iw => ?wires⟩
  case record =>
    rw [Swap.fromBits_eq_iff, swapMask_eq]
    simp (disch := decide) only [and_or_eq_iff, and_fieldMask_eq_iff, extract_one_eq_iff]
  case wires => simp only [Swap.fromBits_eq_extract, Machine.swapWires, SwapSize.wire_ofFlag]
  all_goals simp only [Swap.fromBits_eq_extract, h]

/-! ### The branch offset -/

/-- R163, bit-pattern form: the field below, copies of its sign bit above. -/
theorem branchOffset_getLsbD (raw : BitVec 24) (i : Nat) :
    (branchOffset raw).getLsbD i = (decide (i < 32) && if i < 24 then raw.getLsbD i else raw.getLsbD 23) := by
  rw [branchOffset, BitVec.getLsbD_signExtend, BitVec.msb_eq_getLsbD_last]

theorem extract_branchOffset (raw : BitVec 24) : (branchOffset raw).extractLsb' 0 24 = raw := by
  apply BitVec.eq_of_getLsbD_eq
  intro i hi
  have hi32 : i < 32 := by omega
  rw [BitVec.getLsbD_extractLsb', branchOffset_getLsbD, Nat.zero_add, if_pos hi, decide_eq_true hi, decide_eq_true hi32,
    Bool.true_and, Bool.true_and]

/-- R163: widening keeps the signed value. -/
theorem branchOffset_toInt (raw : BitVec 24) : (branchOffset raw).toInt = raw.toInt :=
  BitVec.toInt_signExtend_of_le (by decide)

theorem branchOffset_toInt_range (raw : BitVec 24) :
    -8388608 ≤ (branchOffset raw).toInt ∧ (branchOffset raw).toInt ≤ 8388607 := by
  rw [branchOffset_toInt]
  exact ⟨BitVec.le_toInt raw, BitVec.toInt_le⟩

/-- R163: shifting the field to the top and back copies its sign bit. -/
theorem branchOffset_eq_shifts (raw : BitVec 24) : branchOffset raw = (raw.setWidth 32 <<< 8).sshiftRight 8 := by
  apply BitVec.eq_of_getLsbD_eq
  intro i hi
  have hmsb : (raw.setWidth 32 <<< 8).msb = raw.getLsbD 23 := by simp [BitVec.msb_eq_getLsbD_last]
  rw [branchOffset_getLsbD, BitVec.getLsbD_sshiftRight, hmsb]
  by_cases hfield : i < 24
  · have hshifted : 8 + i < 32 := by omega
    simp [hi, hfield, hshifted]
  · have hshifted : ¬ 8 + i < 32 := by omega
    simp [hi, hfield, hshifted]

/-- Settles O26: the forms from the bits and the signed value of the widened field; a field is read back from its
offset, so different fields give different offsets. -/
theorem theBranchOffsetIsTheSignExtendedField : Obligations.TheBranchOffsetIsTheSignExtendedField := by
  refine ⟨fun raw => ⟨branchOffset_eq_shifts raw, fun h => ?nonnegative, fun h => ?negative, extract_branchOffset raw,
    fun i hlow hhigh => ?signBits, branchOffset_toInt_range raw⟩, ?corners, fun a b h => ?injective⟩
  case nonnegative =>
    rw [branchOffset_toInt, BitVec.toInt_eq_toNat_cond, if_pos (by omega)]
  case negative =>
    rw [branchOffset_toInt, BitVec.toInt_eq_toNat_cond, if_neg (by omega)]
    rfl
  case signBits => rw [branchOffset_getLsbD, decide_eq_true hhigh, if_neg (Nat.not_lt.mpr hlow), Bool.true_and]
  case corners => decide
  case injective => rw [← extract_branchOffset a, h, extract_branchOffset]

end Sys2Proof
end

section
/-! Settles O34, O35 and O36: the wires of each output group (R97, R124, R140, R161, R167), from what its decoder gives. -/

namespace Sys2Proof.Machine

/-! ### The ShifterOperand sub-block -/

theorem shifterWires_decode_immediate (f : Field) :
    shifterWires (ShifterOperand.decode true f) = { ShifterWires.silent with
      kind := some true, value := some (f.extractLsb' 0 8), rotate := some (f.extractLsb' 8 4) } := by
  rw [ShifterOperand.decode_true, ShifterOperand.fromImmediate_eq_extract]
  rfl

section FieldCases

variable {f : Field}

theorem shifterWires_decode_literal (h4 : f.getLsbD 4 = false) :
    shifterWires (ShifterOperand.decode false f) = { ShifterWires.silent with
      kind := some false, operation := some (f.extractLsb' 5 2), source := some (f.extractLsb' 0 4),
      amountKind := some false, amountVal := some ((f.extractLsb' 7 4).setWidth 5) } := by
  rw [ShifterOperand.decode_false, ShifterOperand.fromRegisterOperand_of_literal h4, shifterWires, operandWires,
    ShiftOperation.toBits_fromCode, literalAmount]

theorem shifterWires_decode_register (h4 : f.getLsbD 4 = true) (h7 : f.getLsbD 7 = false) :
    shifterWires (ShifterOperand.decode false f) = { ShifterWires.silent with
      kind := some false, operation := some (f.extractLsb' 5 2), source := some (f.extractLsb' 0 4),
      amountKind := some true, amountReg := some (f.extractLsb' 8 4) } := by
  rw [ShifterOperand.decode_false, ShifterOperand.fromRegisterOperand_of_register h4 h7, shifterWires, operandWires,
    ShiftOperation.toBits_fromCode]

theorem shifterWires_decode_invalid (h4 : f.getLsbD 4 = true) (h7 : f.getLsbD 7 = true) :
    shifterWires (ShifterOperand.decode false f) = { ShifterWires.silent with err := true, errPayload := some f } := by
  rw [ShifterOperand.decode_false, ShifterOperand.fromRegisterOperand_of_invalid h4 h7]
  rfl

end FieldCases

/-- R97: `so_err` is set by a register-shift field with bit 7 set. -/
theorem shifterWires_decode_err (isImmediate : Bool) (f : Field) :
    (shifterWires (ShifterOperand.decode isImmediate f)).err = (!isImmediate && f.getLsbD 4 && f.getLsbD 7) := by
  cases isImmediate
  case true =>
    rw [shifterWires_decode_immediate]
    rfl
  case false =>
    cases h4 : f.getLsbD 4
    case false =>
      rw [shifterWires_decode_literal h4]
      rfl
    case true =>
      cases h7 : f.getLsbD 7
      case false =>
        rw [shifterWires_decode_register h4 h7]
        rfl
      case true =>
        rw [shifterWires_decode_invalid h4 h7]
        rfl

/-- Settles O34: which kind of operand stands on the wires is read off the immediate flag and bits 4 and 7. -/
theorem theShifterWires : Obligations.TheShifterWires := by
  intro isImmediate f
  refine ⟨shifterWires_decode_err isImmediate f, fun herr => ?error, fun himmediate => ?immediate,
    fun himmediate h4 herr => ?register, fun himmediate h4 => ?literal⟩
  case error =>
    simp only [shifterWires_decode_err, Bool.and_eq_true, Bool.not_eq_true'] at herr
    obtain ⟨⟨rfl, h4⟩, h7⟩ := herr
    exact shifterWires_decode_invalid h4 h7
  case immediate => rw [himmediate, shifterWires_decode_immediate]
  case register =>
    have h7 : f.getLsbD 7 = false := by simpa [shifterWires_decode_err, himmediate, h4] using herr
    rw [himmediate, shifterWires_decode_register h4 h7]
  case literal => rw [himmediate, shifterWires_decode_literal h4]

/-! ### The output groups while a word is driven -/

/-- R16: each group is its own decoder's function of the word on `iw`. -/
theorem State.outputs_of_word {s : State} {decoder : WordDecoder} {iw : Word} (h : s.driven = some (.word decoder iw)) :
    s.outputs =
      { cond := some (ConditionCode.fromBits (iw.extractLsb' s.design.condLsb.val 4))
        condMnemonic := some (ConditionCode.fromBits (iw.extractLsb' s.design.condLsb.val 4)).toMnemonic
        so := some (ShifterOperand.decode (iw.getLsbD 25) (iw.extractLsb' 0 16))
        dp := some (DataInstruction.fromBits iw)
        dpMnemonic := some ((DataOpcode.fromBits (iw.extractLsb' 21 4)).toMnemonic s.design)
        mul := some (Multiply.fromBits iw)
        swp := some (Swap.fromBits iw)
        bx := some (Branch.fromBitsBx iw)
        b := some (Branch.fromBitsBranch iw) } := by
  have hiw : s.iw = some iw := State.iw_eq_some_iff.mpr ⟨decoder, h⟩
  have hcond : s.condIn = some (iw.extractLsb' s.design.condLsb.val 4) := by
    simp only [State.condIn, h, tiedCondition, getBits_eq_extract]
  have hshifter : s.shifterIn = some (iw.getLsbD 25, iw.extractLsb' 0 16) := by
    simp only [State.shifterIn, h, isFlagSet_eq_getLsbD, getBits_eq_extract]
  simp only [State.outputs, hiw, hcond, hshifter, Option.map_some, getBits_eq_extract]

/-! ### The data group -/

theorem operandWires_no_error (v : ShifterOperand) : (operandWires v).err = false ∧ (operandWires v).errPayload = none := by
  match v with
  | .immediate _ _ => exact ⟨rfl, rfl⟩
  | .shift _ _ (.register _) => exact ⟨rfl, rfl⟩
  | .shift _ _ (.value _) => exact ⟨rfl, rfl⟩

/-- R124: the data group shows the sub-block's wires for the bits 25 and 15:0 of its word. -/
theorem dataWires_operand2 (iw : Word) : (dataWires (DataInstruction.fromBits iw)).operand2
    = shifterWires (ShifterOperand.decode (iw.getLsbD 25) (iw.extractLsb' 0 16)) := by
  cases h : DataInstruction.fromBits iw
  case ok d =>
    obtain ⟨operand2, hoperand2, rfl⟩ := DataInstruction.fromBits_ok_iff.mp h
    rw [hoperand2]
    rfl
  case err e =>
    rw [DataInstruction.fromBits_err_iff_decode, isFlagSet_eq_getLsbD, getBits_eq_extract] at h
    rw [h]
    rfl

/-- R124, R191: `dp_err` is a function of the word. -/
theorem dataWires_err (iw : Word) :
    (dataWires (DataInstruction.fromBits iw)).err = (!iw.getLsbD 25 && iw.getLsbD 4 && iw.getLsbD 7) := by
  rw [DataWires.err, dataWires_operand2, shifterWires_decode_err]
  simp

/-- Settles O35: the group's error is that of its second operand, and a word with a result shows its own slices. -/
theorem theDataWires : Obligations.TheDataWires := by
  intro iw
  refine ⟨dataWires_operand2 iw, dataWires_err iw, fun herr => ?error, fun herr => ?fields, fun s hs => ?mnemonic⟩
  case error =>
    simp only [dataWires_err, Bool.and_eq_true, Bool.not_eq_true'] at herr
    obtain ⟨⟨h25, h4⟩, h7⟩ := herr
    rw [DataInstruction.fromBits_err_iff.mpr ⟨h25, h4, h7, rfl⟩]
    rfl
  case fields =>
    cases h : DataInstruction.fromBits iw
    case ok d =>
      obtain ⟨operand2, -, rfl⟩ := DataInstruction.fromBits_ok_iff.mp h
      rw [dataWires, DataOpcode.toBits_fromBits]
      exact ⟨rfl, rfl, rfl, rfl, (operandWires_no_error operand2).2⟩
    case err e =>
      rw [h] at herr
      cases herr
  case mnemonic =>
    obtain ⟨decoder, hdriven⟩ := State.iw_eq_some_iff.mp hs
    rw [State.outputs_of_word hdriven]

/-- Settles O36: the three records are slices of the word, and the offset is the widened field. -/
theorem theMultiplyAndBranchWires : Obligations.TheMultiplyAndBranchWires := by
  intro iw
  refine ⟨?multiply, ?branchExchange, branchOffset (iw.extractLsb' 0 24), ?branch, extract_branchOffset _,
    fun i hlow hhigh => ?signBits⟩
  case multiply => rw [Multiply.fromBits_eq_extract, multiplyWires]
  case branchExchange => rw [Branch.fromBitsBx_eq_extract, branchWires]
  case branch =>
    rw [Branch.fromBitsBranch_eq_extract]
    rfl
  case signBits =>
    rw [branchOffset_getLsbD, decide_eq_true hhigh, if_neg (Nat.not_lt.mpr hlow)]
    simp

end Sys2Proof.Machine
end

section
/-! Settles O38 to O46, O50, O51 and O52, the statements about a step and a run: the row of a presentation records what the
chosen decoder function gives, and that one fact says all a step and then a run can do (R16, R36, R197). -/

namespace Sys2Proof.Machine

/-! ### One instruction -/

/-- R171, R176, R194: whatever the state, an instruction collects one result, which the OPEN parameters alone decide. -/
theorem exec_collects (i : Instr) (cfg : Config) :
    ∃ o : Observation, ∀ s : State, s.design = cfg → exec i s = .next (s.collect o) := by
  induction i using Instr.format_cases with
  | condition code => exact ⟨_, fun s _ => exec_decodeCondition code s⟩
  | data code d =>
    let op := DataOpcode.fromBits code
    refine ⟨.data (dataResult op d) (op.toMnemonic cfg), fun s hs => ?_⟩
    rw [exec_rowOfDataCode, dataRow_eq, hs]
  | immediate value rotate => exact ⟨_, fun s _ => rfl⟩
  | literalShift code amount source => exact ⟨_, fun s _ => exec_rowOfLiteralShift code amount source s⟩
  | registerShift code amountRegister source =>
    exact ⟨_, fun s _ => exec_rowOfRegisterShift code amountRegister source s⟩
  | invalid payload => exact ⟨_, fun s _ => rfl⟩
  | multiply flags m => exact ⟨_, fun s _ => exec_rowOfMultiplyFlags flags m s⟩
  | swap flag w => exact ⟨_, fun s _ => exec_rowOfSwapFlag flag w s⟩
  | branchExchange register => exact ⟨_, fun s _ => rfl⟩
  | branch link offset => exact ⟨_, fun s _ => exec_rowOfLinkFlag link offset s⟩

/-- Settles O40: collecting a result changes nothing but the record. -/
theorem everyInstructionCompletesAndRecordsOneResult : Obligations.EveryInstructionCompletesAndRecordsOneResult := by
  intro i s
  obtain ⟨o, hexec⟩ := exec_collects i s.design
  exact ⟨s.collect o, o, hexec s rfl, s.collect_design o, s.collect_driven o, s.collect_pending o,
    s.collect_observed o⟩

/-- Settles O41: the result collected is one for all states with the same parameters. -/
theorem resultsDoNotDependOnHistory : Obligations.ResultsDoNotDependOnHistory := by
  intro i s s' hdesign
  obtain ⟨o, hexec⟩ := exec_collects i s'.design
  exact ⟨o, hexec s hdesign, hexec s' rfl⟩

/-! ### The rows and the decoder functions -/

/-- R80 to R85, R96: the row of a shifter field records the sub-block's result. -/
theorem exec_decodeShifter (isImmediate : Bool) (f : Field) (s : State) :
    exec (decodeShifter isImmediate f) s = .next (s.collect (.shifter (ShifterOperand.decode isImmediate f))) := by
  cases isImmediate
  case true =>
    rw [decodeShifter_true, ShifterOperand.decode_true, ShifterOperand.fromImmediate_eq_extract]
    rfl
  case false =>
    rw [ShifterOperand.decode_false]
    cases h4 : f.getLsbD 4
    case false =>
      rw [decodeShifter_of_literal h4, ShifterOperand.fromRegisterOperand_of_literal h4, exec_rowOfLiteralShift,
        literalShiftRow_eq]
    case true =>
      cases h7 : f.getLsbD 7
      case false =>
        rw [decodeShifter_of_register h4 h7, ShifterOperand.fromRegisterOperand_of_register h4 h7,
          exec_rowOfRegisterShift, registerShiftRow_eq]
      case true =>
        rw [decodeShifter_of_invalid h4 h7, ShifterOperand.fromRegisterOperand_of_invalid h4 h7]
        rfl

/-- R16, R36: the row a presentation is decoded to records the result of the chosen decoder function. -/
theorem exec_decode (s : State) (p : Presentation) :
    exec (decode s.design p) s = .next (s.collect (chosenResult s.design p)) := by
  match p with
  | .condIn code => exact exec_decodeCondition code s
  | .shifter isImmediate f => exact exec_decodeShifter isImmediate f s
  | .word .condition iw => exact exec_decodeCondition (tiedCondition s.design iw) s
  | .word .dataInstruction iw =>
    rw [decode, decodeData, exec_rowOfDataCode, dataRow_eq, dataResult_dataFieldsOf, chosenResult]
  | .word .multiply iw =>
    rw [decode, decodeMultiply_eq, exec_rowOfMultiplyFlags, multiplyRow_eq, mulFieldsOf_eq_extract, chosenResult,
      Multiply.fromBits_eq_extract]
    simp
  | .word .swap iw =>
    rw [decode, decodeSwap_eq, exec_rowOfSwapFlag, swapRow_eq, swapFieldsOf_eq_extract, chosenResult,
      Swap.fromBits_eq_extract]
  | .word .branchExchange iw => rfl
  | .word .branch iw =>
    rw [decode, decodeBranch_eq, exec_rowOfLinkFlag, branchRow_eq, chosenResult, Branch.fromBitsBranch_eq_extract,
      branchOffset]

/-! ### One step -/

theorem step_of_pending {s : State} {p : Presentation} {rest : List Presentation} (h : s.pending = p :: rest) :
    step s = exec (decode s.design p) (s.drive p rest) := by
  rw [step, h]

theorem step_of_nothing_pending {s : State} (h : s.pending = []) : step s = .refused .noInput := by
  rw [step, h]

/-- R197: what a step with a pair pending answers. -/
theorem step_eq_collect {s : State} {p : Presentation} {rest : List Presentation} (h : s.pending = p :: rest) :
    step s = .next ((s.drive p rest).collect (chosenResult s.design p)) :=
  (step_of_pending h).trans (exec_decode (s.drive p rest) p)

/-- R192, R197: all that a step which answers a next state can have done. -/
theorem step_next_iff {s t : State} : step s = .next t ↔
    ∃ p rest, s.pending = p :: rest ∧ t = (s.drive p rest).collect (chosenResult s.design p) := by
  constructor
  · intro h
    cases hpending : s.pending with
    | nil =>
      rw [step_of_nothing_pending hpending] at h
      cases h
    | cons p rest =>
      rw [step_eq_collect hpending] at h
      cases h
      exact ⟨p, rest, rfl, rfl⟩
  · rintro ⟨p, rest, hpending, rfl⟩
    exact step_eq_collect hpending

/-- A step from a state whose next pair is known. -/
theorem next_of_step {s t : State} {p : Presentation} {rest : List Presentation} (hpending : s.pending = p :: rest)
    (h : step s = .next t) : t = (s.drive p rest).collect (chosenResult s.design p) := by
  rw [step_eq_collect hpending] at h
  cases h
  rfl

/-- Settles O38: the branch of `step` with a pair pending. -/
theorem aStepRunsTheDecodedInstruction : Obligations.AStepRunsTheDecodedInstruction :=
  fun _ _ _ hpending => step_of_pending hpending

/-- Settles O39: the branch of `step` with nothing pending. -/
theorem aStepWithNothingToPresentRefuses : Obligations.AStepWithNothingToPresentRefuses :=
  fun _ hpending => step_of_nothing_pending hpending

/-- Settles O42: a step runs the row of its pair, and the row records what the chosen decoder function gives. -/
theorem aStepRecordsTheChosenDecodersResult : Obligations.AStepRecordsTheChosenDecodersResult :=
  fun _ _ _ hpending => step_eq_collect hpending

/-- Settles O43: the pair just driven is on the inputs, and the outputs are functions of the inputs. -/
theorem allDecodersEvaluateInParallel : Obligations.AllDecodersEvaluateInParallel := by
  intro s t decoder iw rest hpending hstep
  rw [next_of_step hpending hstep]
  exact State.outputs_of_word rfl

/-- Settles O51: `dp_err` is read off the word just driven. -/
theorem theErrorWireIsAFunctionOfTheWord : Obligations.TheErrorWireIsAFunctionOfTheWord := by
  intro s t decoder iw rest hpending hstep
  rw [next_of_step hpending hstep, State.outputs_of_word rfl]
  exact congrArg some (dataWires_err iw)

/-- Settles O44: the outputs hold the chosen decoder's result of the pair just driven, which is the result recorded. -/
theorem theRecordedResultStandsOnTheChosenGroup : Obligations.TheRecordedResultStandsOnTheChosenGroup := by
  intro s t hstep
  obtain ⟨p, rest, -, rfl⟩ := step_next_iff.mp hstep
  refine ⟨chosenResult s.design p, List.getLast?_concat, ?_⟩
  match p with
  | .condIn code => exact ⟨rfl, rfl⟩
  | .shifter isImmediate f => rfl
  | .word .condition iw => exact ⟨rfl, rfl⟩
  | .word .dataInstruction iw => exact ⟨rfl, rfl⟩
  | .word .multiply iw => rfl
  | .word .swap iw => rfl
  | .word .branchExchange iw => rfl
  | .word .branch iw => rfl

/-- Settles O50: the outputs are functions of what is driven, and nothing is. -/
theorem atResetNoOutputCarriesAValue : Obligations.AtResetNoOutputCarriesAValue :=
  ⟨rfl, State.reset_driven, State.reset_pending, State.reset_observed, State.reset_design⟩

/-! ### A run -/

theorem run_succ_of_step {s t : State} (h : step s = .next t) (k : Nat) :
    Sys2Proof.core.run (k + 1) s = Sys2Proof.core.run k t := by
  have hcore : Sys2Proof.core.step s = .next t := h
  simp only [Host.Core.run, hcore]

/-- Settles O45: by induction on the program, from any state; each step drives one pair and adds its result. -/
theorem theObservationOfARunIsPointwise : Obligations.TheObservationOfARunIsPointwise := by
  intro s program rest hpending
  induction program generalizing s with
  | nil =>
    simp only [List.nil_append] at hpending
    simp [Host.Core.run, ← hpending]
  | cons p program ih =>
    have hstep := step_eq_collect (s := s) hpending
    rw [List.length_cons, run_succ_of_step hstep, ih _ rfl]
    have hdriven : program.getLast?.or (some p) = (p :: program).getLast?.or s.driven := by
      rw [List.getLast?_cons]
      cases program.getLast? <;> rfl
    simp [hdriven]

/-- Settles O46: the record of a run is the list of its pairs' results. -/
theorem permutedProgramsGivePermutedResults : Obligations.PermutedProgramsGivePermutedResults := by
  intro s t u p q hpq ht hu
  rw [theObservationOfARunIsPointwise _ p [] (List.append_nil p).symm] at ht
  rw [theObservationOfARunIsPointwise _ q [] (List.append_nil q).symm] at hu
  cases ht
  cases hu
  exact hpq.map _

/-! ### A bare table word -/

theorem bits_of_present {port : Port} {value : Nat} {p : Presentation} (h : present port value = .ok p) :
    p.bits = value := by
  rcases Nat.lt_or_ge value (2 ^ port.width) with hfits | hwide
  · obtain ⟨p', -, hbits, hpresent⟩ := present_of_fits hfits
    rw [hpresent] at h
    cases h
    exact hbits
  · rw [present_of_wide hwide] at h
    cases h

theorem bits_of_tablePresentation {nbits w : Nat} {p : Presentation} (h : tablePresentation nbits w = some p) :
    p.bits = w := by
  unfold tablePresentation at h
  split at h
  case isTrue =>
    cases hpresent : present (tablePort nbits w) w with
    | ok p' =>
      rw [hpresent] at h
      cases h
      exact bits_of_present hpresent
    | error r =>
      rw [hpresent] at h
      cases h
  case isFalse => cases h

/-- Settles O52: the presentation that gave the instruction is the one placed, so a step runs that instruction. -/
theorem aTableWordIsTheNextInstructionRun : Obligations.ATableWordIsTheNextInstructionRun := by
  intro s nbits w i hdesign hi
  obtain ⟨p, hp, rfl⟩ := Option.map_eq_some_iff.mp hi
  have hplaced : s.withFetchWord nbits w = { s with pending := p :: s.pending } := by
    rw [State.withFetchWord, hp]
  refine ⟨p, bits_of_tablePresentation hp, hplaced, ?_⟩
  rw [hplaced, step_of_pending rfl, hdesign]
  rfl

end Sys2Proof.Machine
end

section
/-! Settles O47, O48 and O49: every result the decoder functions give is producible, and for every producible result a
well-formed instruction records it, whose encoding is an input that gives it. -/

namespace Sys2Proof

/-! ### Shifter operands -/

/-- R19, R83: a literal amount of four bits is at most 15 in its container. -/
theorem literalAmount_le (amount : BitVec 4) : (literalAmount amount).toNat ≤ 15 := by
  have hlt : amount.toNat < 16 := amount.isLt
  rw [literalAmount, BitVec.toNat_setWidth]
  omega

/-- R19: an amount of at most 15 is a literal of four bits. -/
theorem literalAmount_setWidth {v : BitVec 5} (h : v.toNat ≤ 15) : literalAmount (v.setWidth 4) = v := by
  apply BitVec.eq_of_toNat_eq
  rw [literalAmount, BitVec.toNat_setWidth, BitVec.toNat_setWidth]
  omega

theorem ShifterOperand.producible_of_decode {isImmediate : Bool} {f : Field} {v : ShifterOperand}
    (h : ShifterOperand.decode isImmediate f = .ok v) : v.producible = true := by
  cases isImmediate
  case true =>
    rw [decode_true] at h
    cases h
    rfl
  case false =>
    rw [decode_false] at h
    cases h4 : f.getLsbD 4
    case false =>
      rw [fromRegisterOperand_of_literal h4] at h
      cases h
      exact decide_eq_true (literalAmount_le _)
    case true =>
      cases h7 : f.getLsbD 7
      case false =>
        rw [fromRegisterOperand_of_register h4 h7] at h
        cases h
        rfl
      case true =>
        rw [fromRegisterOperand_of_invalid h4 h7] at h
        cases h

theorem invalidPayload_iff {f : Field} : invalidPayload f = true ↔ f.getLsbD 4 = true ∧ f.getLsbD 7 = true := by
  rw [← matches_invalidField_iff, invalidPayload, beq_iff_eq]

theorem DecodeError.producible_of_decode {isImmediate : Bool} {f : Field} {e : DecodeError}
    (h : ShifterOperand.decode isImmediate f = .err e) : e.producible = true := by
  obtain ⟨-, herr⟩ := ShifterOperand.decode_err_iff.mp h
  obtain ⟨h4, h7, rfl⟩ := ShifterOperand.fromRegisterOperand_err_iff.mp herr
  exact invalidPayload_iff.mpr ⟨h4, h7⟩

end Sys2Proof

namespace Sys2Proof.Machine

/-! ### Every result given is producible -/

theorem producible_chosenResult (cfg : Config) (p : Presentation) : (chosenResult cfg p).Producible cfg := by
  match p with
  | .condIn code => rfl
  | .shifter isImmediate f =>
    rw [chosenResult]
    cases h : ShifterOperand.decode isImmediate f with
    | ok v => exact ShifterOperand.producible_of_decode h
    | err e => exact DecodeError.producible_of_decode h
  | .word .condition iw => rfl
  | .word .dataInstruction iw =>
    rw [chosenResult, getBits_eq_extract]
    cases h : DataInstruction.fromBits iw with
    | ok d =>
      obtain ⟨operand2, hoperand2, rfl⟩ := DataInstruction.fromBits_ok_iff.mp h
      exact ⟨ShifterOperand.producible_of_decode hoperand2, rfl⟩
    | err e => exact ⟨DecodeError.producible_of_decode (DataInstruction.fromBits_err_iff_decode.mp h), _, rfl⟩
  | .word .multiply iw => trivial
  | .word .swap iw => trivial
  | .word .branchExchange iw => exact ⟨_, rfl⟩
  | .word .branch iw =>
    obtain ⟨hlow, hhigh⟩ := branchOffset_toInt_range (iw.extractLsb' 0 24)
    exact ⟨_, _, Branch.fromBitsBranch_eq_extract iw, hlow, hhigh⟩

/-- Settles O47: the one result a step adds is a decoder function's, and no step changes the parameters. -/
theorem everyStepKeepsTheInvariant : Obligations.EveryStepKeepsTheInvariant := by
  rintro s t ⟨hwf, hobserved⟩ hstep
  obtain ⟨p, rest, -, rfl⟩ := step_next_iff.mp hstep
  refine ⟨hwf, fun o ho => ?_⟩
  rcases List.mem_append.mp ho with hold | hnew
  · exact hobserved o hold
  · rw [List.mem_singleton.mp hnew]
    exact producible_chosenResult s.design p

/-- Settles O48: the default table is legal, and nothing is recorded at reset. -/
theorem theResetStateMeetsTheInvariant : Obligations.TheResetStateMeetsTheInvariant :=
  ⟨by decide, fun _ ho => absurd ho List.not_mem_nil⟩

/-! ### Every producible result is given -/

/-- The state at reset with the OPEN parameters as given: where an instruction is run to see its result. -/
def State.resetWith (cfg : Config) : State := { State.reset with design := cfg }

/-- The encoding of a well-formed instruction is an input that gives the instruction's result. -/
theorem exists_presentation_of_exec {cfg : Config} {i : Instr} {o : Observation} (hwf : i.wellFormed = true)
    (hexec : exec i (State.resetWith cfg) = .next ((State.resetWith cfg).collect o)) :
    ∃ p, chosenResult cfg p = o := by
  have hdecode := exec_decode (State.resetWith cfg) (encode i)
  rw [decodeOfEncodeIsTheInstruction _ i hwf, hexec] at hdecode
  refine ⟨encode i, ?_⟩
  injection hdecode with hnext
  have hobserved := congrArg State.observed hnext
  exact (List.singleton_inj.mp hobserved).symm

/-- R80, R83, R84: a producible operand is a row's result. -/
theorem exists_presentation_of_operand (cfg : Config) {v : ShifterOperand} (h : v.producible = true) :
    ∃ p, chosenResult cfg p = .shifter (.ok v) := by
  match v, h with
  | .immediate value rotate, _ => exact exists_presentation_of_exec (i := .shImm value rotate) rfl rfl
  | .shift operation source (.register r), _ =>
    refine exists_presentation_of_exec (rowOfRegisterShift_row operation.toBits r source).2.1 ?_
    rw [exec_rowOfRegisterShift, registerShiftRow_eq, ShiftOperation.fromCode_toBits]
  | .shift operation source (.value amount), h =>
    have hamount : amount.toNat ≤ 15 := of_decide_eq_true h
    refine exists_presentation_of_exec (rowOfLiteralShift_row operation.toBits (amount.setWidth 4) source).2.1 ?_
    rw [exec_rowOfLiteralShift, literalShiftRow_eq, ShiftOperation.fromCode_toBits, literalAmount_setWidth hamount]

/-- Only the shifter inputs give a shifter result. -/
theorem decode_of_chosenResult_shifter {cfg : Config} {p : Presentation} {result : DecodeResult ShifterOperand}
    (h : chosenResult cfg p = .shifter result) : ∃ isImmediate f, ShifterOperand.decode isImmediate f = result := by
  match p with
  | .shifter isImmediate f =>
    injection h with hresult
    exact ⟨isImmediate, f, hresult⟩
  | .condIn _ | .word .condition _ | .word .dataInstruction _ | .word .multiply _ | .word .swap _
  | .word .branchExchange _ | .word .branch _ => cases h

/-- R37: a producible operand stands in a field that holds any wanted destination above it. -/
theorem exists_field_with_destination {v : ShifterOperand} (h : v.producible = true) (destination : Register) :
    ∃ isImmediate f, f.extractLsb' 12 4 = destination.index ∧ ShifterOperand.decode isImmediate f = .ok v := by
  obtain ⟨p, hp⟩ := exists_presentation_of_operand Config.standard h
  obtain ⟨isImmediate, f, hf⟩ := decode_of_chosenResult_shifter hp
  refine ⟨isImmediate, place 16 destination.index 12 ||| place 16 (f.extractLsb' 0 12) 0, ?destination,
    ShifterOperand.decode_ok_of_low_eq ?low hf⟩
  case destination => simp [BitVec.extractLsb'_or]
  case low => simp [BitVec.extractLsb'_or]

theorem exists_presentation_of_data {cfg : Config} {d : DataFields} {op : DataOpcode}
    {result : DecodeResult DataInstruction} (hd : d.shifterField.extractLsb' 12 4 = d.destination.index)
    (hresult : dataResult op d = result) : ∃ p, chosenResult cfg p = .data result (op.toMnemonic cfg) := by
  have hwf := (rowOfDataCode_row op.toBits d).2.1.trans (DataFields.wellFormed_iff.mpr hd)
  refine exists_presentation_of_exec hwf ?_
  rw [exec_rowOfDataCode, dataRow_eq, DataOpcode.fromBits_toBits, hresult]
  rfl

/-- R39: the code of three flags. -/
def multiplyFlags (long signed accumulate : Bool) : BitVec 3 :=
  BitVec.ofBool long ++ BitVec.ofBool signed ++ BitVec.ofBool accumulate

theorem multiplyFlags_getLsbD (long signed accumulate : Bool) :
    (multiplyFlags long signed accumulate).getLsbD 2 = long ∧ (multiplyFlags long signed accumulate).getLsbD 1 = signed ∧
      (multiplyFlags long signed accumulate).getLsbD 0 = accumulate := by
  revert long signed accumulate
  decide

theorem exists_presentation_of_multiply (cfg : Config) (m : Multiply) : ∃ p, chosenResult cfg p = .multiply m := by
  obtain ⟨hlong, hsigned, haccumulate⟩ := multiplyFlags_getLsbD m.long m.signed m.accumulate
  refine exists_presentation_of_exec (rowOfMultiplyFlags_row (multiplyFlags m.long m.signed m.accumulate)
    ⟨m.setConditionCodes, m.destination, m.operand1, m.operand2, m.operand3⟩).2.1 ?_
  rw [exec_rowOfMultiplyFlags, multiplyRow_eq, hlong, hsigned, haccumulate]

/-- R163: an offset in the 24-bit range is the widened form of its low 24 bits. -/
theorem branchOffset_setWidth {offset : BitVec 32} (hlow : -8388608 ≤ offset.toInt) (hhigh : offset.toInt ≤ 8388607) :
    branchOffset (offset.setWidth 24) = offset := by
  apply BitVec.eq_of_toInt_eq
  rw [branchOffset_toInt]
  simp only [BitVec.toInt_eq_toNat_cond, BitVec.toNat_setWidth] at hlow hhigh ⊢
  omega

/-- Settles O49: what the decoder functions give is producible, and each kind of producible result is a row's. -/
theorem theProducibleResultsAreExactlyTheBlocksResults : Obligations.TheProducibleResultsAreExactlyTheBlocksResults := by
  intro cfg o
  constructor
  · intro h
    match o, h with
    | .condition code _, rfl =>
      refine ⟨.condIn code.toBits, ?_⟩
      rw [chosenResult, ConditionCode.fromBits_toBits]
    | .shifter (.ok v), h => exact exists_presentation_of_operand cfg h
    | .shifter (.err (.invalidShifterOperand f)), h => exact exists_presentation_of_exec (i := .shInvalid f) h rfl
    | .data (.ok d) _, ⟨h, rfl⟩ =>
      obtain ⟨isImmediate, f, hdestination, hf⟩ := exists_field_with_destination h d.destination
      exact exists_presentation_of_data (d := ⟨isImmediate, d.setConditionCodes, d.operand1, d.destination, f⟩)
        hdestination (dataResult_ok_iff.mpr ⟨d.operand2, hf, rfl⟩)
    | .data (.err (.invalidShifterOperand f)) _, ⟨h, op, rfl⟩ =>
      obtain ⟨h4, h7⟩ := invalidPayload_iff.mp h
      exact exists_presentation_of_data (d := ⟨false, false, ⟨0⟩, ⟨f.extractLsb' 12 4⟩, f⟩) rfl
        (dataResult_err_iff.mpr (ShifterOperand.fromRegisterOperand_of_invalid h4 h7))
    | .multiply m, _ => exact exists_presentation_of_multiply cfg m
    | .swap ⟨source, destination, base, .byte⟩, _ =>
      exact exists_presentation_of_exec (i := .swpByte ⟨base, destination, source⟩) rfl rfl
    | .swap ⟨source, destination, base, .word⟩, _ =>
      exact exists_presentation_of_exec (i := .swpWord ⟨base, destination, source⟩) rfl rfl
    | .branchExchange _, ⟨r, rfl⟩ => exact exists_presentation_of_exec (i := .bx r) rfl rfl
    | .branch _, ⟨offset, link, rfl, hlow, hhigh⟩ =>
      refine exists_presentation_of_exec (rowOfLinkFlag_row link (offset.setWidth 24)).2.1 ?_
      rw [exec_rowOfLinkFlag, branchRow_eq, branchOffset_setWidth hlow hhigh]
  · rintro ⟨p, rfl⟩
    exact producible_chosenResult cfg p

end Sys2Proof.Machine
end
